-- ==== Sys2Proof/Word.lean ====
section
/-! DEFINITION. The two widths of the machine: 8-bit memory cells and registers, 16-bit addresses and register pairs (00_scope.md R5). -/

namespace Sys2Proof

/-- An 8-bit memory cell, register or bus transfer (R5, R70). -/
abbrev Byte := BitVec 8

/-- A 16-bit address, register pair, SP or PC (R5). -/
abbrev Word := BitVec 16

end Sys2Proof
end

