-- ==== Sys2Proof/Syntax.lean ====
section
/-! DEFINITION. The instruction set as syntax: the operand tables of 30_encoding.md R142 as enumerated types, and `Instr`,
one constructor per mnemonic of spec/opcode_table.json (the eleven ILLEGAL rows share the constructor `illegal`, which names its byte). -/

namespace Sys2Proof

/-- `r8` without the `(HL)` entry (R142, codes 0 to 5 and 7). -/
inductive R8 where
  | b | c | d | e | h | l | a
  deriving DecidableEq, Repr

/-- `r16` (R142): the pairs BC, DE, HL and the stack pointer. -/
inductive R16 where
  | bc | de | hl | sp
  deriving DecidableEq, Repr

/-- `r16stk` (R142): the pairs PUSH and POP move. -/
inductive R16Stk where
  | bc | de | hl | af
  deriving DecidableEq, Repr

/-- `cc` (R142): the four conditions. -/
inductive Cond where
  | nz | z | nc | c
  deriving DecidableEq, Repr

/-- `alu` (R142): the eight accumulator operations. -/
inductive AluOp where
  | add | adc | sub | sbc | and | xor | or | cp
  deriving DecidableEq, Repr

/-- `rot` (R142): the eight rotates and shifts of the CB page. -/
inductive RotOp where
  | rlc | rrc | rl | rr | sla | sra | swap | srl
  deriving DecidableEq, Repr

/-- The bit number of BIT, RES and SET (R142). -/
inductive BitNum where
  | b0 | b1 | b2 | b3 | b4 | b5 | b6 | b7
  deriving DecidableEq, Repr

/-- The target of RST (R142): `y * 8`. -/
inductive RstVec where
  | t00 | t08 | t10 | t18 | t20 | t28 | t30 | t38
  deriving DecidableEq, Repr

/-- The position 0 to 7 of a bit number. -/
def BitNum.toNat : BitNum → Nat
  | .b0 => 0 | .b1 => 1 | .b2 => 2 | .b3 => 3 | .b4 => 4 | .b5 => 5 | .b6 => 6 | .b7 => 7

/-- The address an RST jumps to (R321). -/
def RstVec.target : RstVec → Word
  | .t00 => 0x00 | .t08 => 0x08 | .t10 => 0x10 | .t18 => 0x18 | .t20 => 0x20 | .t28 => 0x28 | .t30 => 0x30 | .t38 => 0x38

/-- The instructions (R150 to R154). Names: `IndX` is a memory operand at X, `n`, `e`, `nn` are the immediates of R143,
`Inc` and `Dec` after `IndHL` are `(HL+)` and `(HL-)`. `stop` keeps its padding byte, which execution ignores (R161, R332).
`illegal` names which of the eleven undefined bytes it is (R160). -/
inductive Instr where
  | nop
  | ldBCnn (nn : Word)
  | ldIndBCA | incBC | incB | decB
  | ldBn (n : Byte)
  | rlca
  | ldIndNnSP (nn : Word)
  | addHLBC | ldAIndBC | decBC | incC | decC
  | ldCn (n : Byte)
  | rrca
  | stop (pad : Byte)
  | ldDEnn (nn : Word)
  | ldIndDEA | incDE | incD | decD
  | ldDn (n : Byte)
  | rla
  | jr (e : Byte)
  | addHLDE | ldAIndDE | decDE | incE | decE
  | ldEn (n : Byte)
  | rra
  | jrNZ (e : Byte)
  | ldHLnn (nn : Word)
  | ldIndHLIncA | incHL | incH | decH
  | ldHn (n : Byte)
  | daa
  | jrZ (e : Byte)
  | addHLHL | ldAIndHLInc | decHL | incL | decL
  | ldLn (n : Byte)
  | cpl
  | jrNC (e : Byte)
  | ldSPnn (nn : Word)
  | ldIndHLDecA | incSP | incIndHL | decIndHL
  | ldIndHLn (n : Byte)
  | scf
  | jrC (e : Byte)
  | addHLSP | ldAIndHLDec | decSP | incA | decA
  | ldAn (n : Byte)
  | ccf | ldBB | ldBC | ldBD | ldBE | ldBH | ldBL | ldBIndHL
  | ldBA | ldCB | ldCC | ldCD | ldCE | ldCH | ldCL | ldCIndHL
  | ldCA | ldDB | ldDC | ldDD | ldDE | ldDH | ldDL | ldDIndHL
  | ldDA | ldEB | ldEC | ldED | ldEE | ldEH | ldEL | ldEIndHL
  | ldEA | ldHB | ldHC | ldHD | ldHE | ldHH | ldHL | ldHIndHL
  | ldHA | ldLB | ldLC | ldLD | ldLE | ldLH | ldLL | ldLIndHL
  | ldLA | ldIndHLB | ldIndHLC | ldIndHLD | ldIndHLE | ldIndHLH | ldIndHLL | halt
  | ldIndHLA | ldAB | ldAC | ldAD | ldAE | ldAH | ldAL | ldAIndHL
  | ldAA | addAB | addAC | addAD | addAE | addAH | addAL | addAIndHL
  | addAA | adcAB | adcAC | adcAD | adcAE | adcAH | adcAL | adcAIndHL
  | adcAA | subB | subC | subD | subE | subH | subL | subIndHL
  | subA | sbcAB | sbcAC | sbcAD | sbcAE | sbcAH | sbcAL | sbcAIndHL
  | sbcAA | andB | andC | andD | andE | andH | andL | andIndHL
  | andA | xorB | xorC | xorD | xorE | xorH | xorL | xorIndHL
  | xorA | orB | orC | orD | orE | orH | orL | orIndHL
  | orA | cpB | cpC | cpD | cpE | cpH | cpL | cpIndHL
  | cpA | retNZ | popBC
  | jpNZ (nn : Word)
  | jp (nn : Word)
  | callNZ (nn : Word)
  | pushBC
  | addAn (n : Byte)
  | rst00 | retZ | ret
  | jpZ (nn : Word)
  | callZ (nn : Word)
  | call (nn : Word)
  | adcAn (n : Byte)
  | rst08 | retNC | popDE
  | jpNC (nn : Word)
  | illegal (op : Byte)
  | callNC (nn : Word)
  | pushDE
  | subn (n : Byte)
  | rst10 | retC | reti
  | jpC (nn : Word)
  | callC (nn : Word)
  | sbcAn (n : Byte)
  | rst18
  | ldhIndNA (n : Byte)
  | popHL | ldhIndCA | pushHL
  | andn (n : Byte)
  | rst20
  | addSPe (e : Byte)
  | jpHL
  | ldIndNnA (nn : Word)
  | xorn (n : Byte)
  | rst28
  | ldhAIndN (n : Byte)
  | popAF | ldhAIndC | di | pushAF
  | orn (n : Byte)
  | rst30
  | ldHLSPe (e : Byte)
  | ldSPHL
  | ldAIndNn (nn : Word)
  | ei
  | cpn (n : Byte)
  | rst38 | rlcB | rlcC | rlcD | rlcE | rlcH | rlcL | rlcIndHL
  | rlcA | rrcB | rrcC | rrcD | rrcE | rrcH | rrcL | rrcIndHL
  | rrcA | rlB | rlC | rlD | rlE | rlH | rlL | rlIndHL
  | rlA | rrB | rrC | rrD | rrE | rrH | rrL | rrIndHL
  | rrA | slaB | slaC | slaD | slaE | slaH | slaL | slaIndHL
  | slaA | sraB | sraC | sraD | sraE | sraH | sraL | sraIndHL
  | sraA | swapB | swapC | swapD | swapE | swapH | swapL | swapIndHL
  | swapA | srlB | srlC | srlD | srlE | srlH | srlL | srlIndHL
  | srlA | bit0B | bit0C | bit0D | bit0E | bit0H | bit0L | bit0IndHL
  | bit0A | bit1B | bit1C | bit1D | bit1E | bit1H | bit1L | bit1IndHL
  | bit1A | bit2B | bit2C | bit2D | bit2E | bit2H | bit2L | bit2IndHL
  | bit2A | bit3B | bit3C | bit3D | bit3E | bit3H | bit3L | bit3IndHL
  | bit3A | bit4B | bit4C | bit4D | bit4E | bit4H | bit4L | bit4IndHL
  | bit4A | bit5B | bit5C | bit5D | bit5E | bit5H | bit5L | bit5IndHL
  | bit5A | bit6B | bit6C | bit6D | bit6E | bit6H | bit6L | bit6IndHL
  | bit6A | bit7B | bit7C | bit7D | bit7E | bit7H | bit7L | bit7IndHL
  | bit7A | res0B | res0C | res0D | res0E | res0H | res0L | res0IndHL
  | res0A | res1B | res1C | res1D | res1E | res1H | res1L | res1IndHL
  | res1A | res2B | res2C | res2D | res2E | res2H | res2L | res2IndHL
  | res2A | res3B | res3C | res3D | res3E | res3H | res3L | res3IndHL
  | res3A | res4B | res4C | res4D | res4E | res4H | res4L | res4IndHL
  | res4A | res5B | res5C | res5D | res5E | res5H | res5L | res5IndHL
  | res5A | res6B | res6C | res6D | res6E | res6H | res6L | res6IndHL
  | res6A | res7B | res7C | res7D | res7E | res7H | res7L | res7IndHL
  | res7A | set0B | set0C | set0D | set0E | set0H | set0L | set0IndHL
  | set0A | set1B | set1C | set1D | set1E | set1H | set1L | set1IndHL
  | set1A | set2B | set2C | set2D | set2E | set2H | set2L | set2IndHL
  | set2A | set3B | set3C | set3D | set3E | set3H | set3L | set3IndHL
  | set3A | set4B | set4C | set4D | set4E | set4H | set4L | set4IndHL
  | set4A | set5B | set5C | set5D | set5E | set5H | set5L | set5IndHL
  | set5A | set6B | set6C | set6D | set6E | set6H | set6L | set6IndHL
  | set6A | set7B | set7C | set7D | set7E | set7H | set7L | set7IndHL
  | set7A
  deriving DecidableEq, Repr

/-! The families of the opcode map by their operand fields: each sends the fields to the constructor that holds them. -/

/-- LD rr,nn (R201). -/
def Instr.ldPairNn (p : R16) (nn : Word) : Instr :=
  match p with
  | .bc => .ldBCnn nn | .de => .ldDEnn nn | .hl => .ldHLnn nn | .sp => .ldSPnn nn

/-- INC rr (R262). -/
def Instr.incPair (p : R16) : Instr :=
  match p with
  | .bc => .incBC | .de => .incDE | .hl => .incHL | .sp => .incSP

/-- INC r (R240). -/
def Instr.incReg (r : R8) : Instr :=
  match r with
  | .b => .incB | .c => .incC | .d => .incD | .e => .incE
  | .h => .incH | .l => .incL | .a => .incA

/-- DEC r (R242). -/
def Instr.decReg (r : R8) : Instr :=
  match r with
  | .b => .decB | .c => .decC | .d => .decD | .e => .decE
  | .h => .decH | .l => .decL | .a => .decA

/-- LD r,n (R172). -/
def Instr.ldRegN (r : R8) (n : Byte) : Instr :=
  match r with
  | .b => .ldBn n | .c => .ldCn n | .d => .ldDn n | .e => .ldEn n
  | .h => .ldHn n | .l => .ldLn n | .a => .ldAn n

/-- ADD HL,rr (R261). -/
def Instr.addHLPair (p : R16) : Instr :=
  match p with
  | .bc => .addHLBC | .de => .addHLDE | .hl => .addHLHL | .sp => .addHLSP

/-- DEC rr (R263). -/
def Instr.decPair (p : R16) : Instr :=
  match p with
  | .bc => .decBC | .de => .decDE | .hl => .decHL | .sp => .decSP

/-- JR cc,e (R315). -/
def Instr.jrCond (cc : Cond) (e : Byte) : Instr :=
  match cc with
  | .nz => .jrNZ e | .z => .jrZ e | .nc => .jrNC e | .c => .jrC e

/-- LD r,r' (R171). -/
def Instr.ldRegReg (dst src : R8) : Instr :=
  match dst, src with
  | .b, .b => .ldBB | .b, .c => .ldBC | .b, .d => .ldBD | .b, .e => .ldBE
  | .b, .h => .ldBH | .b, .l => .ldBL | .b, .a => .ldBA | .c, .b => .ldCB
  | .c, .c => .ldCC | .c, .d => .ldCD | .c, .e => .ldCE | .c, .h => .ldCH
  | .c, .l => .ldCL | .c, .a => .ldCA | .d, .b => .ldDB | .d, .c => .ldDC
  | .d, .d => .ldDD | .d, .e => .ldDE | .d, .h => .ldDH | .d, .l => .ldDL
  | .d, .a => .ldDA | .e, .b => .ldEB | .e, .c => .ldEC | .e, .d => .ldED
  | .e, .e => .ldEE | .e, .h => .ldEH | .e, .l => .ldEL | .e, .a => .ldEA
  | .h, .b => .ldHB | .h, .c => .ldHC | .h, .d => .ldHD | .h, .e => .ldHE
  | .h, .h => .ldHH | .h, .l => .ldHL | .h, .a => .ldHA | .l, .b => .ldLB
  | .l, .c => .ldLC | .l, .d => .ldLD | .l, .e => .ldLE | .l, .h => .ldLH
  | .l, .l => .ldLL | .l, .a => .ldLA | .a, .b => .ldAB | .a, .c => .ldAC
  | .a, .d => .ldAD | .a, .e => .ldAE | .a, .h => .ldAH | .a, .l => .ldAL
  | .a, .a => .ldAA

/-- LD r,(HL) (R173). -/
def Instr.ldRegInd (r : R8) : Instr :=
  match r with
  | .b => .ldBIndHL | .c => .ldCIndHL | .d => .ldDIndHL | .e => .ldEIndHL
  | .h => .ldHIndHL | .l => .ldLIndHL | .a => .ldAIndHL

/-- LD (HL),r (R174). -/
def Instr.ldIndReg (r : R8) : Instr :=
  match r with
  | .b => .ldIndHLB | .c => .ldIndHLC | .d => .ldIndHLD | .e => .ldIndHLE
  | .h => .ldIndHLH | .l => .ldIndHLL | .a => .ldIndHLA

/-- the accumulator operations on a register (R216 to R237). -/
def Instr.aluReg (op : AluOp) (r : R8) : Instr :=
  match op, r with
  | .add, .b => .addAB | .add, .c => .addAC | .add, .d => .addAD | .add, .e => .addAE
  | .add, .h => .addAH | .add, .l => .addAL | .add, .a => .addAA | .adc, .b => .adcAB
  | .adc, .c => .adcAC | .adc, .d => .adcAD | .adc, .e => .adcAE | .adc, .h => .adcAH
  | .adc, .l => .adcAL | .adc, .a => .adcAA | .sub, .b => .subB | .sub, .c => .subC
  | .sub, .d => .subD | .sub, .e => .subE | .sub, .h => .subH | .sub, .l => .subL
  | .sub, .a => .subA | .sbc, .b => .sbcAB | .sbc, .c => .sbcAC | .sbc, .d => .sbcAD
  | .sbc, .e => .sbcAE | .sbc, .h => .sbcAH | .sbc, .l => .sbcAL | .sbc, .a => .sbcAA
  | .and, .b => .andB | .and, .c => .andC | .and, .d => .andD | .and, .e => .andE
  | .and, .h => .andH | .and, .l => .andL | .and, .a => .andA | .xor, .b => .xorB
  | .xor, .c => .xorC | .xor, .d => .xorD | .xor, .e => .xorE | .xor, .h => .xorH
  | .xor, .l => .xorL | .xor, .a => .xorA | .or, .b => .orB | .or, .c => .orC
  | .or, .d => .orD | .or, .e => .orE | .or, .h => .orH | .or, .l => .orL
  | .or, .a => .orA | .cp, .b => .cpB | .cp, .c => .cpC | .cp, .d => .cpD
  | .cp, .e => .cpE | .cp, .h => .cpH | .cp, .l => .cpL | .cp, .a => .cpA

/-- the accumulator operations on (HL) (R217 to R238). -/
def Instr.aluInd (op : AluOp) : Instr :=
  match op with
  | .add => .addAIndHL | .adc => .adcAIndHL | .sub => .subIndHL | .sbc => .sbcAIndHL
  | .and => .andIndHL | .xor => .xorIndHL | .or => .orIndHL | .cp => .cpIndHL

/-- RET cc (R319). -/
def Instr.retCond (cc : Cond) : Instr :=
  match cc with
  | .nz => .retNZ | .z => .retZ | .nc => .retNC | .c => .retC

/-- POP rr and POP AF (R206, R207). -/
def Instr.popStk (p : R16Stk) : Instr :=
  match p with
  | .bc => .popBC | .de => .popDE | .hl => .popHL | .af => .popAF

/-- JP cc,nn (R312). -/
def Instr.jpCond (cc : Cond) (nn : Word) : Instr :=
  match cc with
  | .nz => .jpNZ nn | .z => .jpZ nn | .nc => .jpNC nn | .c => .jpC nn

/-- CALL cc,nn (R317). -/
def Instr.callCond (cc : Cond) (nn : Word) : Instr :=
  match cc with
  | .nz => .callNZ nn | .z => .callZ nn | .nc => .callNC nn | .c => .callC nn

/-- PUSH rr (R205). -/
def Instr.pushStk (p : R16Stk) : Instr :=
  match p with
  | .bc => .pushBC | .de => .pushDE | .hl => .pushHL | .af => .pushAF

/-- the accumulator operations on an immediate (R218 to R239). -/
def Instr.aluN (op : AluOp) (n : Byte) : Instr :=
  match op with
  | .add => .addAn n | .adc => .adcAn n | .sub => .subn n | .sbc => .sbcAn n
  | .and => .andn n | .xor => .xorn n | .or => .orn n | .cp => .cpn n

/-- RST t (R321). -/
def Instr.rst (t : RstVec) : Instr :=
  match t with
  | .t00 => .rst00 | .t08 => .rst08 | .t10 => .rst10 | .t18 => .rst18
  | .t20 => .rst20 | .t28 => .rst28 | .t30 => .rst30 | .t38 => .rst38

/-- the CB-page rotates and shifts on a register (R275 to R289). -/
def Instr.rotReg (op : RotOp) (r : R8) : Instr :=
  match op, r with
  | .rlc, .b => .rlcB | .rlc, .c => .rlcC | .rlc, .d => .rlcD | .rlc, .e => .rlcE
  | .rlc, .h => .rlcH | .rlc, .l => .rlcL | .rlc, .a => .rlcA | .rrc, .b => .rrcB
  | .rrc, .c => .rrcC | .rrc, .d => .rrcD | .rrc, .e => .rrcE | .rrc, .h => .rrcH
  | .rrc, .l => .rrcL | .rrc, .a => .rrcA | .rl, .b => .rlB | .rl, .c => .rlC
  | .rl, .d => .rlD | .rl, .e => .rlE | .rl, .h => .rlH | .rl, .l => .rlL
  | .rl, .a => .rlA | .rr, .b => .rrB | .rr, .c => .rrC | .rr, .d => .rrD
  | .rr, .e => .rrE | .rr, .h => .rrH | .rr, .l => .rrL | .rr, .a => .rrA
  | .sla, .b => .slaB | .sla, .c => .slaC | .sla, .d => .slaD | .sla, .e => .slaE
  | .sla, .h => .slaH | .sla, .l => .slaL | .sla, .a => .slaA | .sra, .b => .sraB
  | .sra, .c => .sraC | .sra, .d => .sraD | .sra, .e => .sraE | .sra, .h => .sraH
  | .sra, .l => .sraL | .sra, .a => .sraA | .swap, .b => .swapB | .swap, .c => .swapC
  | .swap, .d => .swapD | .swap, .e => .swapE | .swap, .h => .swapH | .swap, .l => .swapL
  | .swap, .a => .swapA | .srl, .b => .srlB | .srl, .c => .srlC | .srl, .d => .srlD
  | .srl, .e => .srlE | .srl, .h => .srlH | .srl, .l => .srlL | .srl, .a => .srlA

/-- the CB-page rotates and shifts on (HL) (R276 to R290). -/
def Instr.rotInd (op : RotOp) : Instr :=
  match op with
  | .rlc => .rlcIndHL | .rrc => .rrcIndHL | .rl => .rlIndHL | .rr => .rrIndHL
  | .sla => .slaIndHL | .sra => .sraIndHL | .swap => .swapIndHL | .srl => .srlIndHL

/-- BIT b,r (R291). -/
def Instr.bitReg (b : BitNum) (r : R8) : Instr :=
  match b, r with
  | .b0, .b => .bit0B | .b0, .c => .bit0C | .b0, .d => .bit0D | .b0, .e => .bit0E
  | .b0, .h => .bit0H | .b0, .l => .bit0L | .b0, .a => .bit0A | .b1, .b => .bit1B
  | .b1, .c => .bit1C | .b1, .d => .bit1D | .b1, .e => .bit1E | .b1, .h => .bit1H
  | .b1, .l => .bit1L | .b1, .a => .bit1A | .b2, .b => .bit2B | .b2, .c => .bit2C
  | .b2, .d => .bit2D | .b2, .e => .bit2E | .b2, .h => .bit2H | .b2, .l => .bit2L
  | .b2, .a => .bit2A | .b3, .b => .bit3B | .b3, .c => .bit3C | .b3, .d => .bit3D
  | .b3, .e => .bit3E | .b3, .h => .bit3H | .b3, .l => .bit3L | .b3, .a => .bit3A
  | .b4, .b => .bit4B | .b4, .c => .bit4C | .b4, .d => .bit4D | .b4, .e => .bit4E
  | .b4, .h => .bit4H | .b4, .l => .bit4L | .b4, .a => .bit4A | .b5, .b => .bit5B
  | .b5, .c => .bit5C | .b5, .d => .bit5D | .b5, .e => .bit5E | .b5, .h => .bit5H
  | .b5, .l => .bit5L | .b5, .a => .bit5A | .b6, .b => .bit6B | .b6, .c => .bit6C
  | .b6, .d => .bit6D | .b6, .e => .bit6E | .b6, .h => .bit6H | .b6, .l => .bit6L
  | .b6, .a => .bit6A | .b7, .b => .bit7B | .b7, .c => .bit7C | .b7, .d => .bit7D
  | .b7, .e => .bit7E | .b7, .h => .bit7H | .b7, .l => .bit7L | .b7, .a => .bit7A

/-- BIT b,(HL) (R292). -/
def Instr.bitInd (b : BitNum) : Instr :=
  match b with
  | .b0 => .bit0IndHL | .b1 => .bit1IndHL | .b2 => .bit2IndHL | .b3 => .bit3IndHL
  | .b4 => .bit4IndHL | .b5 => .bit5IndHL | .b6 => .bit6IndHL | .b7 => .bit7IndHL

/-- RES b,r (R293). -/
def Instr.resReg (b : BitNum) (r : R8) : Instr :=
  match b, r with
  | .b0, .b => .res0B | .b0, .c => .res0C | .b0, .d => .res0D | .b0, .e => .res0E
  | .b0, .h => .res0H | .b0, .l => .res0L | .b0, .a => .res0A | .b1, .b => .res1B
  | .b1, .c => .res1C | .b1, .d => .res1D | .b1, .e => .res1E | .b1, .h => .res1H
  | .b1, .l => .res1L | .b1, .a => .res1A | .b2, .b => .res2B | .b2, .c => .res2C
  | .b2, .d => .res2D | .b2, .e => .res2E | .b2, .h => .res2H | .b2, .l => .res2L
  | .b2, .a => .res2A | .b3, .b => .res3B | .b3, .c => .res3C | .b3, .d => .res3D
  | .b3, .e => .res3E | .b3, .h => .res3H | .b3, .l => .res3L | .b3, .a => .res3A
  | .b4, .b => .res4B | .b4, .c => .res4C | .b4, .d => .res4D | .b4, .e => .res4E
  | .b4, .h => .res4H | .b4, .l => .res4L | .b4, .a => .res4A | .b5, .b => .res5B
  | .b5, .c => .res5C | .b5, .d => .res5D | .b5, .e => .res5E | .b5, .h => .res5H
  | .b5, .l => .res5L | .b5, .a => .res5A | .b6, .b => .res6B | .b6, .c => .res6C
  | .b6, .d => .res6D | .b6, .e => .res6E | .b6, .h => .res6H | .b6, .l => .res6L
  | .b6, .a => .res6A | .b7, .b => .res7B | .b7, .c => .res7C | .b7, .d => .res7D
  | .b7, .e => .res7E | .b7, .h => .res7H | .b7, .l => .res7L | .b7, .a => .res7A

/-- RES b,(HL) (R294). -/
def Instr.resInd (b : BitNum) : Instr :=
  match b with
  | .b0 => .res0IndHL | .b1 => .res1IndHL | .b2 => .res2IndHL | .b3 => .res3IndHL
  | .b4 => .res4IndHL | .b5 => .res5IndHL | .b6 => .res6IndHL | .b7 => .res7IndHL

/-- SET b,r (R295). -/
def Instr.setReg (b : BitNum) (r : R8) : Instr :=
  match b, r with
  | .b0, .b => .set0B | .b0, .c => .set0C | .b0, .d => .set0D | .b0, .e => .set0E
  | .b0, .h => .set0H | .b0, .l => .set0L | .b0, .a => .set0A | .b1, .b => .set1B
  | .b1, .c => .set1C | .b1, .d => .set1D | .b1, .e => .set1E | .b1, .h => .set1H
  | .b1, .l => .set1L | .b1, .a => .set1A | .b2, .b => .set2B | .b2, .c => .set2C
  | .b2, .d => .set2D | .b2, .e => .set2E | .b2, .h => .set2H | .b2, .l => .set2L
  | .b2, .a => .set2A | .b3, .b => .set3B | .b3, .c => .set3C | .b3, .d => .set3D
  | .b3, .e => .set3E | .b3, .h => .set3H | .b3, .l => .set3L | .b3, .a => .set3A
  | .b4, .b => .set4B | .b4, .c => .set4C | .b4, .d => .set4D | .b4, .e => .set4E
  | .b4, .h => .set4H | .b4, .l => .set4L | .b4, .a => .set4A | .b5, .b => .set5B
  | .b5, .c => .set5C | .b5, .d => .set5D | .b5, .e => .set5E | .b5, .h => .set5H
  | .b5, .l => .set5L | .b5, .a => .set5A | .b6, .b => .set6B | .b6, .c => .set6C
  | .b6, .d => .set6D | .b6, .e => .set6E | .b6, .h => .set6H | .b6, .l => .set6L
  | .b6, .a => .set6A | .b7, .b => .set7B | .b7, .c => .set7C | .b7, .d => .set7D
  | .b7, .e => .set7E | .b7, .h => .set7H | .b7, .l => .set7L | .b7, .a => .set7A

/-- SET b,(HL) (R296). -/
def Instr.setInd (b : BitNum) : Instr :=
  match b with
  | .b0 => .set0IndHL | .b1 => .set1IndHL | .b2 => .set2IndHL | .b3 => .set3IndHL
  | .b4 => .set4IndHL | .b5 => .set5IndHL | .b6 => .set6IndHL | .b7 => .set7IndHL

end Sys2Proof
end

