-- ==== Sys2Proof/WellFormed.lean ====
section
/-! DEFINITION. The one check an instruction needs beyond the types of its fields: `illegal` names one of the eleven bytes of R160. -/

namespace Sys2Proof

/-- The eleven illegal opcode bytes (30_encoding.md R160). -/
def illegalBytes : List Byte :=
  [0xD3, 0xDB, 0xDD, 0xE3, 0xE4, 0xEB, 0xEC, 0xED, 0xF4, 0xFC, 0xFD]

/-- Whether the term is an instruction of the map: every byte and word operand is allowed (R143, R161); an `illegal` term
must name an illegal byte. -/
def Instr.wellFormed : Instr → Bool
  | .illegal op => illegalBytes.contains op
  | _ => true

/-- The proposition form of `wellFormed`. -/
abbrev Instr.WellFormed (i : Instr) : Prop := i.wellFormed = true

end Sys2Proof
end

