-- ==== Sys2Proof/Decode.lean ====
section
/-! DEFINITION. The decoder, field by field as 30_encoding.md R140 to R154 give it, and after it the encoder, one opcode per
constructor as the grid of R155 and the CB page of R154 give it. Both directions are written from the spec on their own. -/

namespace Sys2Proof

/-! Byte order: a 16-bit quantity has its low byte at the low address (R75). -/

/-- The high byte of a word. -/
def hiByte (w : Word) : Byte := w.extractLsb' 8 8

/-- The low byte of a word. -/
def loByte (w : Word) : Byte := w.extractLsb' 0 8

/-- `hi:lo` (R7). -/
def wordOf (hi lo : Byte) : Word := hi ++ lo

/-- The five instruction formats (R141). -/
inductive Format where
  | op | opN | opE | opNn | cb
  deriving DecidableEq, Repr

/-- The bytes an instruction of the format takes (R140). -/
def Format.length : Format → Nat
  | .op => 1 | .opN => 2 | .opE => 2 | .opNn => 3 | .cb => 2

/-- Why a list of bytes holds no whole instruction: the decoder refuses nothing else (R144: it is total). -/
inductive DecodeError where
  /-- There is no byte at all. -/
  | noOpcode
  /-- The list ends before the operand bytes the opcode's format asks for. -/
  | truncatedOperand
  deriving DecidableEq, Repr

/-! The operand tables of R142, by field value. -/

/-- `r8[i]`; `none` is the entry 6, `(HL)`. -/
def R8.ofField : Nat → Option R8
  | 0 => some .b | 1 => some .c | 2 => some .d | 3 => some .e
  | 4 => some .h | 5 => some .l | 7 => some .a | _ => none

/-- `r16[p]`. -/
def R16.ofField : Nat → R16
  | 0 => .bc | 1 => .de | 2 => .hl | _ => .sp

/-- `r16stk[p]`. -/
def R16Stk.ofField : Nat → R16Stk
  | 0 => .bc | 1 => .de | 2 => .hl | _ => .af

/-- `cc`. -/
def Cond.ofField : Nat → Cond
  | 0 => .nz | 1 => .z | 2 => .nc | _ => .c

/-- `alu[y]`. -/
def AluOp.ofField : Nat → AluOp
  | 0 => .add | 1 => .adc | 2 => .sub | 3 => .sbc | 4 => .and | 5 => .xor | 6 => .or | _ => .cp

/-- `rot[y]`. -/
def RotOp.ofField : Nat → RotOp
  | 0 => .rlc | 1 => .rrc | 2 => .rl | 3 => .rr | 4 => .sla | 5 => .sra | 6 => .swap | _ => .srl

/-- The bit number `y`. -/
def BitNum.ofField : Nat → BitNum
  | 0 => .b0 | 1 => .b1 | 2 => .b2 | 3 => .b3 | 4 => .b4 | 5 => .b5 | 6 => .b6 | _ => .b7

/-- The RST target `y * 8`. -/
def RstVec.ofField : Nat → RstVec
  | 0 => .t00 | 1 => .t08 | 2 => .t10 | 3 => .t18 | 4 => .t20 | 5 => .t28 | 6 => .t30 | _ => .t38

/-! The fields of an opcode byte (R141): `x = op[7:6]`, `y = op[5:3]`, `z = op[2:0]`, and `p`, `q` inside `y`. -/

/-- `x = op[7:6]`. -/
def fieldX (op : Byte) : Nat := op.toNat / 64
/-- `y = op[5:3]`. -/
def fieldY (op : Byte) : Nat := op.toNat / 8 % 8
/-- `z = op[2:0]`. -/
def fieldZ (op : Byte) : Nat := op.toNat % 8

/-- The format of the instruction a first byte opens (R140, R141, R150 to R153). -/
def formatOf (op : Byte) : Format :=
  let y := fieldY op
  match fieldX op, fieldZ op with
  | 0, 0 => if y = 1 then .opNn else if y = 2 then .opN else if 3 ≤ y then .opE else .op
  | 0, 1 => if y % 2 = 0 then .opNn else .op
  | 0, 6 => .opN
  | 0, _ => .op
  | 1, _ => .op
  | 2, _ => .op
  | _, 0 => if y = 5 ∨ y = 7 then .opE else if y = 4 ∨ y = 6 then .opN else .op
  | _, 2 => if y = 4 ∨ y = 6 then .op else .opNn
  | _, 3 => if y = 0 then .opNn else if y = 1 then .cb else .op
  | _, 4 => if y ≤ 3 then .opNn else .op
  | _, 5 => if y = 1 then .opNn else .op
  | _, 6 => .opN
  | _, _ => .op

/-- Block x = 0 (R150). `b1` and `b2` are the bytes after the opcode. -/
def decodeBlock0 (y z : Nat) (b1 b2 : Byte) : Instr :=
  let p := y / 2
  match z with
  | 0 =>
    match y with
    | 0 => .nop
    | 1 => .ldIndNnSP (wordOf b2 b1)
    | 2 => .stop b1
    | 3 => .jr b1
    | _ => .jrCond (.ofField (y - 4)) b1
  | 1 => if y % 2 = 0 then .ldPairNn (.ofField p) (wordOf b2 b1) else .addHLPair (.ofField p)
  | 2 =>
    match y with
    | 0 => .ldIndBCA | 1 => .ldAIndBC | 2 => .ldIndDEA | 3 => .ldAIndDE
    | 4 => .ldIndHLIncA | 5 => .ldAIndHLInc | 6 => .ldIndHLDecA | _ => .ldAIndHLDec
  | 3 => if y % 2 = 0 then .incPair (.ofField p) else .decPair (.ofField p)
  | 4 => match R8.ofField y with | some r => .incReg r | none => .incIndHL
  | 5 => match R8.ofField y with | some r => .decReg r | none => .decIndHL
  | 6 => match R8.ofField y with | some r => .ldRegN r b1 | none => .ldIndHLn b1
  | _ =>
    match y with
    | 0 => .rlca | 1 => .rrca | 2 => .rla | 3 => .rra | 4 => .daa | 5 => .cpl | 6 => .scf | _ => .ccf

/-- Block x = 1 (R151): the register loads, with HALT in the place of `LD (HL),(HL)`. -/
def decodeBlock1 (y z : Nat) : Instr :=
  match R8.ofField y, R8.ofField z with
  | some dst, some src => .ldRegReg dst src
  | some dst, none => .ldRegInd dst
  | none, some src => .ldIndReg src
  | none, none => .halt

/-- Block x = 2 (R152): the accumulator operations. -/
def decodeBlock2 (y z : Nat) : Instr :=
  match R8.ofField z with
  | some r => .aluReg (.ofField y) r
  | none => .aluInd (.ofField y)

/-- The CB page (R154). -/
def decodeCb (op2 : Byte) : Instr :=
  let y := fieldY op2
  match fieldX op2, R8.ofField (fieldZ op2) with
  | 0, some r => .rotReg (.ofField y) r
  | 0, none => .rotInd (.ofField y)
  | 1, some r => .bitReg (.ofField y) r
  | 1, none => .bitInd (.ofField y)
  | 2, some r => .resReg (.ofField y) r
  | 2, none => .resInd (.ofField y)
  | _, some r => .setReg (.ofField y) r
  | _, none => .setInd (.ofField y)

/-- Block x = 3 (R153). -/
def decodeBlock3 (op : Byte) (y z : Nat) (b1 b2 : Byte) : Instr :=
  let p := y / 2
  match z with
  | 0 =>
    match y with
    | 4 => .ldhIndNA b1
    | 5 => .addSPe b1
    | 6 => .ldhAIndN b1
    | 7 => .ldHLSPe b1
    | _ => .retCond (.ofField y)
  | 1 =>
    if y % 2 = 0 then .popStk (.ofField p)
    else match p with | 0 => .ret | 1 => .reti | 2 => .jpHL | _ => .ldSPHL
  | 2 =>
    match y with
    | 4 => .ldhIndCA
    | 5 => .ldIndNnA (wordOf b2 b1)
    | 6 => .ldhAIndC
    | 7 => .ldAIndNn (wordOf b2 b1)
    | _ => .jpCond (.ofField y) (wordOf b2 b1)
  | 3 =>
    match y with
    | 0 => .jp (wordOf b2 b1)
    | 1 => decodeCb b1
    | 6 => .di
    | 7 => .ei
    | _ => .illegal op
  | 4 => if y ≤ 3 then .callCond (.ofField y) (wordOf b2 b1) else .illegal op
  | 5 =>
    if y % 2 = 0 then .pushStk (.ofField p)
    else if p = 0 then .call (wordOf b2 b1) else .illegal op
  | 6 => .aluN (.ofField y) b1
  | _ => .rst (.ofField y)

/-- The instruction three bytes begin with (R144); bytes past its length play no part. -/
def decode3 (op b1 b2 : Byte) : Instr :=
  let y := fieldY op
  let z := fieldZ op
  match fieldX op with
  | 0 => decodeBlock0 y z b1 b2
  | 1 => decodeBlock1 y z
  | 2 => decodeBlock2 y z
  | _ => decodeBlock3 op y z b1 b2

/-- The decoder over any bytes: the first instruction and the bytes after it, or by name why there is none. -/
def decode : List Byte → Except DecodeError (Instr × List Byte)
  | [] => .error .noOpcode
  | op :: rest =>
    match (formatOf op).length, rest with
    | 1, rest => .ok (decode3 op 0 0, rest)
    | 2, b1 :: rest => .ok (decode3 op b1 0, rest)
    | 3, b1 :: b2 :: rest => .ok (decode3 op b1 b2, rest)
    | _, _ => .error .truncatedOperand

/-- The bytes of an instruction, the opcode first (R141, R155, R154). -/
def encode : Instr → List Byte
  | .nop => [0x00]
  | .ldBCnn nn => [0x01, loByte nn, hiByte nn]
  | .ldIndBCA => [0x02]
  | .incBC => [0x03]
  | .incB => [0x04]
  | .decB => [0x05]
  | .ldBn n => [0x06, n]
  | .rlca => [0x07]
  | .ldIndNnSP nn => [0x08, loByte nn, hiByte nn]
  | .addHLBC => [0x09]
  | .ldAIndBC => [0x0A]
  | .decBC => [0x0B]
  | .incC => [0x0C]
  | .decC => [0x0D]
  | .ldCn n => [0x0E, n]
  | .rrca => [0x0F]
  | .stop pad => [0x10, pad]
  | .ldDEnn nn => [0x11, loByte nn, hiByte nn]
  | .ldIndDEA => [0x12]
  | .incDE => [0x13]
  | .incD => [0x14]
  | .decD => [0x15]
  | .ldDn n => [0x16, n]
  | .rla => [0x17]
  | .jr e => [0x18, e]
  | .addHLDE => [0x19]
  | .ldAIndDE => [0x1A]
  | .decDE => [0x1B]
  | .incE => [0x1C]
  | .decE => [0x1D]
  | .ldEn n => [0x1E, n]
  | .rra => [0x1F]
  | .jrNZ e => [0x20, e]
  | .ldHLnn nn => [0x21, loByte nn, hiByte nn]
  | .ldIndHLIncA => [0x22]
  | .incHL => [0x23]
  | .incH => [0x24]
  | .decH => [0x25]
  | .ldHn n => [0x26, n]
  | .daa => [0x27]
  | .jrZ e => [0x28, e]
  | .addHLHL => [0x29]
  | .ldAIndHLInc => [0x2A]
  | .decHL => [0x2B]
  | .incL => [0x2C]
  | .decL => [0x2D]
  | .ldLn n => [0x2E, n]
  | .cpl => [0x2F]
  | .jrNC e => [0x30, e]
  | .ldSPnn nn => [0x31, loByte nn, hiByte nn]
  | .ldIndHLDecA => [0x32]
  | .incSP => [0x33]
  | .incIndHL => [0x34]
  | .decIndHL => [0x35]
  | .ldIndHLn n => [0x36, n]
  | .scf => [0x37]
  | .jrC e => [0x38, e]
  | .addHLSP => [0x39]
  | .ldAIndHLDec => [0x3A]
  | .decSP => [0x3B]
  | .incA => [0x3C]
  | .decA => [0x3D]
  | .ldAn n => [0x3E, n]
  | .ccf => [0x3F]
  | .ldBB => [0x40]
  | .ldBC => [0x41]
  | .ldBD => [0x42]
  | .ldBE => [0x43]
  | .ldBH => [0x44]
  | .ldBL => [0x45]
  | .ldBIndHL => [0x46]
  | .ldBA => [0x47]
  | .ldCB => [0x48]
  | .ldCC => [0x49]
  | .ldCD => [0x4A]
  | .ldCE => [0x4B]
  | .ldCH => [0x4C]
  | .ldCL => [0x4D]
  | .ldCIndHL => [0x4E]
  | .ldCA => [0x4F]
  | .ldDB => [0x50]
  | .ldDC => [0x51]
  | .ldDD => [0x52]
  | .ldDE => [0x53]
  | .ldDH => [0x54]
  | .ldDL => [0x55]
  | .ldDIndHL => [0x56]
  | .ldDA => [0x57]
  | .ldEB => [0x58]
  | .ldEC => [0x59]
  | .ldED => [0x5A]
  | .ldEE => [0x5B]
  | .ldEH => [0x5C]
  | .ldEL => [0x5D]
  | .ldEIndHL => [0x5E]
  | .ldEA => [0x5F]
  | .ldHB => [0x60]
  | .ldHC => [0x61]
  | .ldHD => [0x62]
  | .ldHE => [0x63]
  | .ldHH => [0x64]
  | .ldHL => [0x65]
  | .ldHIndHL => [0x66]
  | .ldHA => [0x67]
  | .ldLB => [0x68]
  | .ldLC => [0x69]
  | .ldLD => [0x6A]
  | .ldLE => [0x6B]
  | .ldLH => [0x6C]
  | .ldLL => [0x6D]
  | .ldLIndHL => [0x6E]
  | .ldLA => [0x6F]
  | .ldIndHLB => [0x70]
  | .ldIndHLC => [0x71]
  | .ldIndHLD => [0x72]
  | .ldIndHLE => [0x73]
  | .ldIndHLH => [0x74]
  | .ldIndHLL => [0x75]
  | .halt => [0x76]
  | .ldIndHLA => [0x77]
  | .ldAB => [0x78]
  | .ldAC => [0x79]
  | .ldAD => [0x7A]
  | .ldAE => [0x7B]
  | .ldAH => [0x7C]
  | .ldAL => [0x7D]
  | .ldAIndHL => [0x7E]
  | .ldAA => [0x7F]
  | .addAB => [0x80]
  | .addAC => [0x81]
  | .addAD => [0x82]
  | .addAE => [0x83]
  | .addAH => [0x84]
  | .addAL => [0x85]
  | .addAIndHL => [0x86]
  | .addAA => [0x87]
  | .adcAB => [0x88]
  | .adcAC => [0x89]
  | .adcAD => [0x8A]
  | .adcAE => [0x8B]
  | .adcAH => [0x8C]
  | .adcAL => [0x8D]
  | .adcAIndHL => [0x8E]
  | .adcAA => [0x8F]
  | .subB => [0x90]
  | .subC => [0x91]
  | .subD => [0x92]
  | .subE => [0x93]
  | .subH => [0x94]
  | .subL => [0x95]
  | .subIndHL => [0x96]
  | .subA => [0x97]
  | .sbcAB => [0x98]
  | .sbcAC => [0x99]
  | .sbcAD => [0x9A]
  | .sbcAE => [0x9B]
  | .sbcAH => [0x9C]
  | .sbcAL => [0x9D]
  | .sbcAIndHL => [0x9E]
  | .sbcAA => [0x9F]
  | .andB => [0xA0]
  | .andC => [0xA1]
  | .andD => [0xA2]
  | .andE => [0xA3]
  | .andH => [0xA4]
  | .andL => [0xA5]
  | .andIndHL => [0xA6]
  | .andA => [0xA7]
  | .xorB => [0xA8]
  | .xorC => [0xA9]
  | .xorD => [0xAA]
  | .xorE => [0xAB]
  | .xorH => [0xAC]
  | .xorL => [0xAD]
  | .xorIndHL => [0xAE]
  | .xorA => [0xAF]
  | .orB => [0xB0]
  | .orC => [0xB1]
  | .orD => [0xB2]
  | .orE => [0xB3]
  | .orH => [0xB4]
  | .orL => [0xB5]
  | .orIndHL => [0xB6]
  | .orA => [0xB7]
  | .cpB => [0xB8]
  | .cpC => [0xB9]
  | .cpD => [0xBA]
  | .cpE => [0xBB]
  | .cpH => [0xBC]
  | .cpL => [0xBD]
  | .cpIndHL => [0xBE]
  | .cpA => [0xBF]
  | .retNZ => [0xC0]
  | .popBC => [0xC1]
  | .jpNZ nn => [0xC2, loByte nn, hiByte nn]
  | .jp nn => [0xC3, loByte nn, hiByte nn]
  | .callNZ nn => [0xC4, loByte nn, hiByte nn]
  | .pushBC => [0xC5]
  | .addAn n => [0xC6, n]
  | .rst00 => [0xC7]
  | .retZ => [0xC8]
  | .ret => [0xC9]
  | .jpZ nn => [0xCA, loByte nn, hiByte nn]
  | .callZ nn => [0xCC, loByte nn, hiByte nn]
  | .call nn => [0xCD, loByte nn, hiByte nn]
  | .adcAn n => [0xCE, n]
  | .rst08 => [0xCF]
  | .retNC => [0xD0]
  | .popDE => [0xD1]
  | .jpNC nn => [0xD2, loByte nn, hiByte nn]
  | .illegal op => [op]
  | .callNC nn => [0xD4, loByte nn, hiByte nn]
  | .pushDE => [0xD5]
  | .subn n => [0xD6, n]
  | .rst10 => [0xD7]
  | .retC => [0xD8]
  | .reti => [0xD9]
  | .jpC nn => [0xDA, loByte nn, hiByte nn]
  | .callC nn => [0xDC, loByte nn, hiByte nn]
  | .sbcAn n => [0xDE, n]
  | .rst18 => [0xDF]
  | .ldhIndNA n => [0xE0, n]
  | .popHL => [0xE1]
  | .ldhIndCA => [0xE2]
  | .pushHL => [0xE5]
  | .andn n => [0xE6, n]
  | .rst20 => [0xE7]
  | .addSPe e => [0xE8, e]
  | .jpHL => [0xE9]
  | .ldIndNnA nn => [0xEA, loByte nn, hiByte nn]
  | .xorn n => [0xEE, n]
  | .rst28 => [0xEF]
  | .ldhAIndN n => [0xF0, n]
  | .popAF => [0xF1]
  | .ldhAIndC => [0xF2]
  | .di => [0xF3]
  | .pushAF => [0xF5]
  | .orn n => [0xF6, n]
  | .rst30 => [0xF7]
  | .ldHLSPe e => [0xF8, e]
  | .ldSPHL => [0xF9]
  | .ldAIndNn nn => [0xFA, loByte nn, hiByte nn]
  | .ei => [0xFB]
  | .cpn n => [0xFE, n]
  | .rst38 => [0xFF]
  | .rlcB => [0xCB, 0x00]
  | .rlcC => [0xCB, 0x01]
  | .rlcD => [0xCB, 0x02]
  | .rlcE => [0xCB, 0x03]
  | .rlcH => [0xCB, 0x04]
  | .rlcL => [0xCB, 0x05]
  | .rlcIndHL => [0xCB, 0x06]
  | .rlcA => [0xCB, 0x07]
  | .rrcB => [0xCB, 0x08]
  | .rrcC => [0xCB, 0x09]
  | .rrcD => [0xCB, 0x0A]
  | .rrcE => [0xCB, 0x0B]
  | .rrcH => [0xCB, 0x0C]
  | .rrcL => [0xCB, 0x0D]
  | .rrcIndHL => [0xCB, 0x0E]
  | .rrcA => [0xCB, 0x0F]
  | .rlB => [0xCB, 0x10]
  | .rlC => [0xCB, 0x11]
  | .rlD => [0xCB, 0x12]
  | .rlE => [0xCB, 0x13]
  | .rlH => [0xCB, 0x14]
  | .rlL => [0xCB, 0x15]
  | .rlIndHL => [0xCB, 0x16]
  | .rlA => [0xCB, 0x17]
  | .rrB => [0xCB, 0x18]
  | .rrC => [0xCB, 0x19]
  | .rrD => [0xCB, 0x1A]
  | .rrE => [0xCB, 0x1B]
  | .rrH => [0xCB, 0x1C]
  | .rrL => [0xCB, 0x1D]
  | .rrIndHL => [0xCB, 0x1E]
  | .rrA => [0xCB, 0x1F]
  | .slaB => [0xCB, 0x20]
  | .slaC => [0xCB, 0x21]
  | .slaD => [0xCB, 0x22]
  | .slaE => [0xCB, 0x23]
  | .slaH => [0xCB, 0x24]
  | .slaL => [0xCB, 0x25]
  | .slaIndHL => [0xCB, 0x26]
  | .slaA => [0xCB, 0x27]
  | .sraB => [0xCB, 0x28]
  | .sraC => [0xCB, 0x29]
  | .sraD => [0xCB, 0x2A]
  | .sraE => [0xCB, 0x2B]
  | .sraH => [0xCB, 0x2C]
  | .sraL => [0xCB, 0x2D]
  | .sraIndHL => [0xCB, 0x2E]
  | .sraA => [0xCB, 0x2F]
  | .swapB => [0xCB, 0x30]
  | .swapC => [0xCB, 0x31]
  | .swapD => [0xCB, 0x32]
  | .swapE => [0xCB, 0x33]
  | .swapH => [0xCB, 0x34]
  | .swapL => [0xCB, 0x35]
  | .swapIndHL => [0xCB, 0x36]
  | .swapA => [0xCB, 0x37]
  | .srlB => [0xCB, 0x38]
  | .srlC => [0xCB, 0x39]
  | .srlD => [0xCB, 0x3A]
  | .srlE => [0xCB, 0x3B]
  | .srlH => [0xCB, 0x3C]
  | .srlL => [0xCB, 0x3D]
  | .srlIndHL => [0xCB, 0x3E]
  | .srlA => [0xCB, 0x3F]
  | .bit0B => [0xCB, 0x40]
  | .bit0C => [0xCB, 0x41]
  | .bit0D => [0xCB, 0x42]
  | .bit0E => [0xCB, 0x43]
  | .bit0H => [0xCB, 0x44]
  | .bit0L => [0xCB, 0x45]
  | .bit0IndHL => [0xCB, 0x46]
  | .bit0A => [0xCB, 0x47]
  | .bit1B => [0xCB, 0x48]
  | .bit1C => [0xCB, 0x49]
  | .bit1D => [0xCB, 0x4A]
  | .bit1E => [0xCB, 0x4B]
  | .bit1H => [0xCB, 0x4C]
  | .bit1L => [0xCB, 0x4D]
  | .bit1IndHL => [0xCB, 0x4E]
  | .bit1A => [0xCB, 0x4F]
  | .bit2B => [0xCB, 0x50]
  | .bit2C => [0xCB, 0x51]
  | .bit2D => [0xCB, 0x52]
  | .bit2E => [0xCB, 0x53]
  | .bit2H => [0xCB, 0x54]
  | .bit2L => [0xCB, 0x55]
  | .bit2IndHL => [0xCB, 0x56]
  | .bit2A => [0xCB, 0x57]
  | .bit3B => [0xCB, 0x58]
  | .bit3C => [0xCB, 0x59]
  | .bit3D => [0xCB, 0x5A]
  | .bit3E => [0xCB, 0x5B]
  | .bit3H => [0xCB, 0x5C]
  | .bit3L => [0xCB, 0x5D]
  | .bit3IndHL => [0xCB, 0x5E]
  | .bit3A => [0xCB, 0x5F]
  | .bit4B => [0xCB, 0x60]
  | .bit4C => [0xCB, 0x61]
  | .bit4D => [0xCB, 0x62]
  | .bit4E => [0xCB, 0x63]
  | .bit4H => [0xCB, 0x64]
  | .bit4L => [0xCB, 0x65]
  | .bit4IndHL => [0xCB, 0x66]
  | .bit4A => [0xCB, 0x67]
  | .bit5B => [0xCB, 0x68]
  | .bit5C => [0xCB, 0x69]
  | .bit5D => [0xCB, 0x6A]
  | .bit5E => [0xCB, 0x6B]
  | .bit5H => [0xCB, 0x6C]
  | .bit5L => [0xCB, 0x6D]
  | .bit5IndHL => [0xCB, 0x6E]
  | .bit5A => [0xCB, 0x6F]
  | .bit6B => [0xCB, 0x70]
  | .bit6C => [0xCB, 0x71]
  | .bit6D => [0xCB, 0x72]
  | .bit6E => [0xCB, 0x73]
  | .bit6H => [0xCB, 0x74]
  | .bit6L => [0xCB, 0x75]
  | .bit6IndHL => [0xCB, 0x76]
  | .bit6A => [0xCB, 0x77]
  | .bit7B => [0xCB, 0x78]
  | .bit7C => [0xCB, 0x79]
  | .bit7D => [0xCB, 0x7A]
  | .bit7E => [0xCB, 0x7B]
  | .bit7H => [0xCB, 0x7C]
  | .bit7L => [0xCB, 0x7D]
  | .bit7IndHL => [0xCB, 0x7E]
  | .bit7A => [0xCB, 0x7F]
  | .res0B => [0xCB, 0x80]
  | .res0C => [0xCB, 0x81]
  | .res0D => [0xCB, 0x82]
  | .res0E => [0xCB, 0x83]
  | .res0H => [0xCB, 0x84]
  | .res0L => [0xCB, 0x85]
  | .res0IndHL => [0xCB, 0x86]
  | .res0A => [0xCB, 0x87]
  | .res1B => [0xCB, 0x88]
  | .res1C => [0xCB, 0x89]
  | .res1D => [0xCB, 0x8A]
  | .res1E => [0xCB, 0x8B]
  | .res1H => [0xCB, 0x8C]
  | .res1L => [0xCB, 0x8D]
  | .res1IndHL => [0xCB, 0x8E]
  | .res1A => [0xCB, 0x8F]
  | .res2B => [0xCB, 0x90]
  | .res2C => [0xCB, 0x91]
  | .res2D => [0xCB, 0x92]
  | .res2E => [0xCB, 0x93]
  | .res2H => [0xCB, 0x94]
  | .res2L => [0xCB, 0x95]
  | .res2IndHL => [0xCB, 0x96]
  | .res2A => [0xCB, 0x97]
  | .res3B => [0xCB, 0x98]
  | .res3C => [0xCB, 0x99]
  | .res3D => [0xCB, 0x9A]
  | .res3E => [0xCB, 0x9B]
  | .res3H => [0xCB, 0x9C]
  | .res3L => [0xCB, 0x9D]
  | .res3IndHL => [0xCB, 0x9E]
  | .res3A => [0xCB, 0x9F]
  | .res4B => [0xCB, 0xA0]
  | .res4C => [0xCB, 0xA1]
  | .res4D => [0xCB, 0xA2]
  | .res4E => [0xCB, 0xA3]
  | .res4H => [0xCB, 0xA4]
  | .res4L => [0xCB, 0xA5]
  | .res4IndHL => [0xCB, 0xA6]
  | .res4A => [0xCB, 0xA7]
  | .res5B => [0xCB, 0xA8]
  | .res5C => [0xCB, 0xA9]
  | .res5D => [0xCB, 0xAA]
  | .res5E => [0xCB, 0xAB]
  | .res5H => [0xCB, 0xAC]
  | .res5L => [0xCB, 0xAD]
  | .res5IndHL => [0xCB, 0xAE]
  | .res5A => [0xCB, 0xAF]
  | .res6B => [0xCB, 0xB0]
  | .res6C => [0xCB, 0xB1]
  | .res6D => [0xCB, 0xB2]
  | .res6E => [0xCB, 0xB3]
  | .res6H => [0xCB, 0xB4]
  | .res6L => [0xCB, 0xB5]
  | .res6IndHL => [0xCB, 0xB6]
  | .res6A => [0xCB, 0xB7]
  | .res7B => [0xCB, 0xB8]
  | .res7C => [0xCB, 0xB9]
  | .res7D => [0xCB, 0xBA]
  | .res7E => [0xCB, 0xBB]
  | .res7H => [0xCB, 0xBC]
  | .res7L => [0xCB, 0xBD]
  | .res7IndHL => [0xCB, 0xBE]
  | .res7A => [0xCB, 0xBF]
  | .set0B => [0xCB, 0xC0]
  | .set0C => [0xCB, 0xC1]
  | .set0D => [0xCB, 0xC2]
  | .set0E => [0xCB, 0xC3]
  | .set0H => [0xCB, 0xC4]
  | .set0L => [0xCB, 0xC5]
  | .set0IndHL => [0xCB, 0xC6]
  | .set0A => [0xCB, 0xC7]
  | .set1B => [0xCB, 0xC8]
  | .set1C => [0xCB, 0xC9]
  | .set1D => [0xCB, 0xCA]
  | .set1E => [0xCB, 0xCB]
  | .set1H => [0xCB, 0xCC]
  | .set1L => [0xCB, 0xCD]
  | .set1IndHL => [0xCB, 0xCE]
  | .set1A => [0xCB, 0xCF]
  | .set2B => [0xCB, 0xD0]
  | .set2C => [0xCB, 0xD1]
  | .set2D => [0xCB, 0xD2]
  | .set2E => [0xCB, 0xD3]
  | .set2H => [0xCB, 0xD4]
  | .set2L => [0xCB, 0xD5]
  | .set2IndHL => [0xCB, 0xD6]
  | .set2A => [0xCB, 0xD7]
  | .set3B => [0xCB, 0xD8]
  | .set3C => [0xCB, 0xD9]
  | .set3D => [0xCB, 0xDA]
  | .set3E => [0xCB, 0xDB]
  | .set3H => [0xCB, 0xDC]
  | .set3L => [0xCB, 0xDD]
  | .set3IndHL => [0xCB, 0xDE]
  | .set3A => [0xCB, 0xDF]
  | .set4B => [0xCB, 0xE0]
  | .set4C => [0xCB, 0xE1]
  | .set4D => [0xCB, 0xE2]
  | .set4E => [0xCB, 0xE3]
  | .set4H => [0xCB, 0xE4]
  | .set4L => [0xCB, 0xE5]
  | .set4IndHL => [0xCB, 0xE6]
  | .set4A => [0xCB, 0xE7]
  | .set5B => [0xCB, 0xE8]
  | .set5C => [0xCB, 0xE9]
  | .set5D => [0xCB, 0xEA]
  | .set5E => [0xCB, 0xEB]
  | .set5H => [0xCB, 0xEC]
  | .set5L => [0xCB, 0xED]
  | .set5IndHL => [0xCB, 0xEE]
  | .set5A => [0xCB, 0xEF]
  | .set6B => [0xCB, 0xF0]
  | .set6C => [0xCB, 0xF1]
  | .set6D => [0xCB, 0xF2]
  | .set6E => [0xCB, 0xF3]
  | .set6H => [0xCB, 0xF4]
  | .set6L => [0xCB, 0xF5]
  | .set6IndHL => [0xCB, 0xF6]
  | .set6A => [0xCB, 0xF7]
  | .set7B => [0xCB, 0xF8]
  | .set7C => [0xCB, 0xF9]
  | .set7D => [0xCB, 0xFA]
  | .set7E => [0xCB, 0xFB]
  | .set7H => [0xCB, 0xFC]
  | .set7L => [0xCB, 0xFD]
  | .set7IndHL => [0xCB, 0xFE]
  | .set7A => [0xCB, 0xFF]

/-- The length of an instruction in bytes (R140). -/
def Instr.length (i : Instr) : Nat := (encode i).length

/-- The bytes, lowest address first, of a number of spec/opcode_table.json: a row's number is `byte0:byte1` (R165), so the
opcode is bits 15 to 8 and byte1 bits 7 to 0; bits 23 to 16 are the third byte; a number of at most 8 bits is the opcode
alone; bits at or above `nbits` are 0 (log entry 18). -/
def tableBytes (nbits w : Nat) : List Byte :=
  let v := w % 2 ^ nbits
  if nbits ≤ 8 then [BitVec.ofNat 8 v, 0, 0]
  else [BitVec.ofNat 8 (v / 256), BitVec.ofNat 8 v, BitVec.ofNat 8 (v / 65536)]

/-- The instruction the decoder reads from the bits `w`, numbered as the table numbers them. -/
def decodeTableWord (nbits w : Nat) : Option Instr :=
  match decode (tableBytes nbits w) with
  | .ok (i, _) => some i
  | .error _ => none

end Sys2Proof
end

