-- ==== Sys2Proof/Config.lean ====
section
/-! DEFINITION. What is fixed for one machine (the parameters of 00_scope.md R6) and the free values the spec leaves open. -/

namespace Sys2Proof

/-- An RGB triple, 8 bits a channel (R42, R431). -/
structure Rgb where
  red   : Byte
  green : Byte
  blue  : Byte
  deriving DecidableEq, Repr

/-- `dmgShadeRgb`: the triple of each of the four DMG shades (R6, R424, D27). -/
structure Shades where
  shade0 : Rgb
  shade1 : Rgb
  shade2 : Rgb
  shade3 : Rgb
  deriving DecidableEq, Repr

/-- One entry of `Config.cycles` that replaces the default table's (R6, R470, R471, D42): the page and byte of the opcode,
its base count and the count of a taken branch. Log entry 11. -/
structure CycleEntry where
  cbPage : Bool
  opcode : Byte
  base   : Nat
  taken  : Nat
  deriving DecidableEq, Repr

/-- The parameters of R6 that outlive `create`; no step changes them (R47, log entry 16). The images themselves are in
`Stores`; the mapper kind is the constructor of `Mapper`. -/
structure Config where
  /-- The console variant: false DMG, true CGB. -/
  cgb         : Bool
  /-- The length of the cartridge image in bytes (R121). -/
  romSize     : Nat
  /-- The cartridge RAM in bytes, 0 for none (R121). -/
  ramSize     : Nat
  /-- The length of the supplied boot ROM, 0 for none (R131). -/
  bootRomSize : Nat
  /-- Whether mode 3 closes VRAM and OAM to the CPU (R84, D24). -/
  mode3Lock   : Bool
  /-- `IDLE_CYCLES`: what a halted or stopped step bills (R400, D9). -/
  idleCycles  : Nat
  /-- `dmgShadeRgb` (D27). -/
  shades      : Shades
  /-- Entries that replace the default cycle table's; the empty list is the default table (R470). -/
  cycles      : List CycleEntry
  deriving DecidableEq, Repr

/-- The default of `dmgShadeRgb` (R424). -/
def Shades.grey : Shades :=
  { shade0 := ⟨255, 255, 255⟩, shade1 := ⟨170, 170, 170⟩, shade2 := ⟨85, 85, 85⟩, shade3 := ⟨0, 0, 0⟩ }

/-- The defaults R6 states; the image sizes are the model's choice, the mapperless 32 KiB cartridge without RAM (log entry 1). -/
def Config.default : Config :=
  { cgb := false, romSize := 0x8000, ramSize := 0, bootRomSize := 0, mode3Lock := true, idleCycles := 4,
    shades := .grey, cycles := [] }

/-- The constraints on the cycle parameters (R471, D9): positive multiples of 4, the taken count at least the base count. -/
def Config.CyclesOk (c : Config) : Prop :=
  (0 < c.idleCycles ∧ c.idleCycles % 4 = 0) ∧
  ∀ e ∈ c.cycles, 0 < e.base ∧ e.base % 4 = 0 ∧ e.taken % 4 = 0 ∧ e.base ≤ e.taken

/-- Which of a step's bus reads asks for a free byte: two reads of one step may give different bytes (93 U3, U4). -/
inductive ReadPort where
  | opcode | operand1 | operand2
  | data1 | data2
  | dma (i : Nat)
  | host
  deriving DecidableEq, Repr

/-- `any value` (R89, R102 to R104, 93 U3 and U4): the byte the `n`-th free moment gives a read of an address through a port.
It has no body, so a claim about it holds whatever the byte is (log entry 3). -/
opaque Config.freeByte : Nat → ReadPort → Word → Byte

end Sys2Proof
end

