-- ==== Sys2Proof/Machine/Memory.lean ====
section
/-! DEFINITION. Byte stores: sorted lists of (offset, byte) pairs in one canonical form, the ten backing stores of 10_state.md
R42 and R44, and what an offset no entry lists reads as. -/

namespace Sys2Proof.Machine

/-- A byte store: offsets strictly rising, no entry equal to the store's blank byte. -/
abbrev Memory := List Host.Cell

/-- The byte at an offset; `blank` is what an unlisted offset reads as. -/
def Memory.read (blank : Byte) : Memory → Nat → Byte
  | [], _ => blank
  | (k, v) :: rest, a => if k = a then v else Memory.read blank rest a

/-- Stores a byte, keeping the canonical form: storing the blank byte removes the entry. -/
def Memory.write (blank : Byte) : Memory → Nat → Byte → Memory
  | [], a, v => if v = blank then [] else [(a, v)]
  | (k, w) :: rest, a, v =>
    if a < k then (if v = blank then (k, w) :: rest else (a, v) :: (k, w) :: rest)
    else if a = k then (if v = blank then rest else (a, v) :: rest)
    else (k, w) :: Memory.write blank rest a v

/-- The canonical form. -/
def Memory.wf (blank : Byte) : Memory → Bool
  | [] => true
  | [(_, v)] => v != blank
  | (a, v) :: (b, w) :: rest => v != blank && decide (a < b) && Memory.wf blank ((b, w) :: rest)

/-- The store that holds `bytes` from offset `start` on. -/
def Memory.ofBytes (blank : Byte) : Nat → List Byte → Memory
  | _, [] => []
  | start, v :: rest =>
    if v = blank then Memory.ofBytes blank (start + 1) rest else (start, v) :: Memory.ofBytes blank (start + 1) rest

/-- The backing stores (R44; the palette RAMs of R41; the framebuffer of R42). Offsets: `vram` is `bank * 0x2000 + offset`,
`wram` is `bank * 0x1000 + offset`, the others count from 0. -/
inductive Store where
  | rom | bootRom | cartRam | vram | wram | oam | hram | bgPalRam | objPalRam | framebuffer
  deriving DecidableEq, Repr

/-- What an unlisted offset of a store reads as: the reset contents of R48 (RAMs 0x00, palette RAM and framebuffer 0xFF).
For the two images, which the spec gives no contents, 0x00 is the model's choice (log entry 2). -/
def Store.blank : Store → Byte
  | .rom => 0x00 | .bootRom => 0x00 | .cartRam => 0x00 | .vram => 0x00 | .wram => 0x00 | .oam => 0x00 | .hram => 0x00
  | .bgPalRam => 0xFF | .objPalRam => 0xFF | .framebuffer => 0xFF

end Sys2Proof.Machine
end

