-- ==== Sys2Proof/Machine/Profile.lean ====
section
/-! DEFINITION. The reset profiles (10_state.md R48, 70_reset_and_hazards.md R452, R453) and the two small types they need. -/

namespace Sys2Proof.Machine

/-- The LCD mode (R42). -/
inductive LcdMode where
  | hblank | vblank | oamScan | transfer
  deriving DecidableEq, Repr

/-- The mode's number, STAT bits 1:0 (R38, R42). -/
def LcdMode.code : LcdMode → BitVec 2
  | .hblank => 0 | .vblank => 1 | .oamScan => 2 | .transfer => 3

/-- BCPS and OCPS: the six index bits and the auto-increment bit (R41, R107). -/
structure PalIndex where
  auto  : Bool
  index : BitVec 6
  deriving DecidableEq, Repr

/-- `resetProfile` (R452): one value for each state element it may set. -/
structure ResetProfile where
  a : Byte
  f : Byte
  b : Byte
  c : Byte
  d : Byte
  e : Byte
  h : Byte
  l : Byte
  sp : Word
  pc : Word
  ifReg : BitVec 5
  ie : Byte
  div : Byte
  tima : Byte
  tma : Byte
  tac : BitVec 3
  joypSel : BitVec 2
  dmaReg : Byte
  lcdc : Byte
  statEn : BitVec 4
  scy : Byte
  scx : Byte
  ly : Byte
  lyc : Byte
  wy : Byte
  wx : Byte
  bgp : Byte
  obp0 : Byte
  obp1 : Byte
  scanCounter : Nat
  mode : LcdMode
  vbk : BitVec 1
  svbk : BitVec 3
  bcps : PalIndex
  ocps : PalIndex
  bgPalRam : Memory
  objPalRam : Memory
  vram : Memory
  wram : Memory
  oam : Memory
  hram : Memory
  deriving DecidableEq, Repr

/-- The DMG column of R48. Its CGB elements are "absent" there; the model keeps 0 in them and nothing reads it (log entry 22). -/
def ResetProfile.postBootDmg : ResetProfile :=
  { a := 0x01, f := 0xB0, b := 0x00, c := 0x13, d := 0x00, e := 0xD8, h := 0x01, l := 0x4D, sp := 0xFFFE, pc := 0x0100
    ifReg := 0x01, ie := 0x00, div := 0xAB, tima := 0, tma := 0, tac := 0, joypSel := 0, dmaReg := 0xFF
    lcdc := 0x91, statEn := 0, scy := 0, scx := 0, ly := 0, lyc := 0, wy := 0, wx := 0
    bgp := 0xFC, obp0 := 0xFF, obp1 := 0xFF, scanCounter := 0, mode := .oamScan
    vbk := 0, svbk := 0, bcps := ⟨false, 0⟩, ocps := ⟨false, 0⟩, bgPalRam := [], objPalRam := []
    vram := [], wram := [], oam := [], hram := [] }

/-- The CGB column of R48. -/
def ResetProfile.postBootCgb : ResetProfile :=
  { ResetProfile.postBootDmg with
    a := 0x11, f := 0x80, b := 0x00, c := 0x00, d := 0xFF, e := 0x56, h := 0x00, l := 0x0D }

/-- 64 bytes of palette RAM, all 0x00, in the canonical form of a store whose blank byte is 0xFF. -/
def zeroPalette : Memory := Memory.ofBytes 0xFF 0 (List.replicate 64 0x00)

/-- The cold profile (R453): every register, latch, counter and RAM byte 0; mode 0 since the LCD is off. -/
def ResetProfile.cold : ResetProfile :=
  { a := 0, f := 0, b := 0, c := 0, d := 0, e := 0, h := 0, l := 0, sp := 0, pc := 0
    ifReg := 0, ie := 0, div := 0, tima := 0, tma := 0, tac := 0, joypSel := 0, dmaReg := 0
    lcdc := 0, statEn := 0, scy := 0, scx := 0, ly := 0, lyc := 0, wy := 0, wx := 0
    bgp := 0, obp0 := 0, obp1 := 0, scanCounter := 0, mode := .hblank
    vbk := 0, svbk := 0, bcps := ⟨false, 0⟩, ocps := ⟨false, 0⟩, bgPalRam := zeroPalette, objPalRam := zeroPalette
    vram := [], wram := [], oam := [], hram := [] }

/-- The mode function of 60_exceptions.md R411 for an LCD that is on. -/
def modeAt (ly : Byte) (scanCounter : Nat) : LcdMode :=
  if 144 ≤ ly.toNat then .vblank
  else if scanCounter < 80 then .oamScan
  else if scanCounter < 252 then .transfer
  else .hblank

/-- The constraints R452 puts on a profile. `create` does not ask for them (DESIGN CHOICE, log entry 29). -/
def ResetProfile.Ok (p : ResetProfile) : Prop :=
  p.f.extractLsb' 0 4 = 0 ∧ p.ly.toNat ≤ 153 ∧ p.scanCounter ≤ 455 ∧
  (if p.lcdc.getLsbD 7 then p.mode = modeAt p.ly p.scanCounter else p.mode = .hblank ∧ p.ly = 0 ∧ p.scanCounter = 0)

end Sys2Proof.Machine
end

