-- ==== Sys2Proof/Machine/State.lean ====
section
/-! DEFINITION. The whole state of the machine (10_state.md R20 to R48), its reset, and the reasons a step could stop. -/

namespace Sys2Proof.Machine

/-- The CPU registers and latches (R20 to R30). -/
structure Cpu where
  a : Byte
  /-- Z N H C in bits 7 to 4; bits 3 to 0 are always 0 (R23). -/
  f : Byte
  b : Byte
  c : Byte
  d : Byte
  e : Byte
  h : Byte
  l : Byte
  sp : Word
  pc : Word
  ime : Bool
  halted : Bool
  stopped : Bool
  eiPending : Bool
  haltBug : Bool
  crashed : Bool
  deriving DecidableEq, Repr

/-- The interrupt request and enable registers: IF has five stored bits (R32), IE eight (R33). -/
structure Irq where
  ifReg : BitVec 5
  ie    : Byte
  deriving DecidableEq, Repr

/-- The timer (R34). -/
structure Timer where
  div  : Byte
  tima : Byte
  tma  : Byte
  tac  : BitVec 3
  divCounter  : Nat
  timaCounter : Nat
  deriving DecidableEq, Repr

/-- JOYP's two stored bits and the host's key latch (R35). -/
structure Joypad where
  sel  : BitVec 2
  keys : Byte
  deriving DecidableEq, Repr

/-- The OAM DMA register and the cycles its window stays open (R36). -/
structure OamDma where
  reg        : Byte
  cyclesLeft : Nat
  deriving DecidableEq, Repr

/-- The PPU registers (R37 to R40) and internal state (R42); the framebuffer is a store. -/
structure Ppu where
  lcdc   : Byte
  /-- STAT bits 6 to 3: bit 3 is LY=LYC, bit 2 mode 2, bit 1 mode 1, bit 0 mode 0. -/
  statEn : BitVec 4
  scy : Byte
  scx : Byte
  ly  : Byte
  lyc : Byte
  wy  : Byte
  wx  : Byte
  bgp  : Byte
  obp0 : Byte
  obp1 : Byte
  scanCounter : Nat
  mode : LcdMode
  windowLine : Nat
  /-- One flag for each of the 160 pixels of the line rendered last. -/
  bgPrio : List Bool
  frameReady : Bool
  deriving DecidableEq, Repr

/-- The CGB-only registers (R41); unused when `cgb` is false. -/
structure Cgb where
  vbk  : BitVec 1
  svbk : BitVec 3
  bcps : PalIndex
  ocps : PalIndex
  deriving DecidableEq, Repr

/-- MBC1 (R45, R123). -/
structure Mbc1 where
  ramEnable : Bool
  bank1 : BitVec 5
  bank2 : BitVec 2
  mode  : BitVec 1
  deriving DecidableEq, Repr

/-- MBC2 (R45, R125). -/
structure Mbc2 where
  ramEnable : Bool
  romBank : BitVec 4
  deriving DecidableEq, Repr

/-- The five clock registers of MBC3, selectors 0x8 to 0xC (R45, R127). -/
structure Rtc where
  seconds : Byte
  minutes : Byte
  hours   : Byte
  dayLow  : Byte
  dayHigh : Byte
  deriving DecidableEq, Repr

/-- MBC3 (R45, R126). -/
structure Mbc3 where
  ramEnable : Bool
  romBank   : BitVec 7
  ramRtcSel : BitVec 4
  rtc       : Rtc
  latchPrev : Byte
  deriving DecidableEq, Repr

/-- MBC5 (R45, R128). -/
structure Mbc5 where
  ramEnable : Bool
  romBank : BitVec 9
  ramBank : BitVec 4
  deriving DecidableEq, Repr

/-- The mapper, "a tagged sum" (R120): the kind and the state that kind has (R45). -/
inductive Mapper where
  | none
  | mbc1 (m : Mbc1)
  | mbc2 (m : Mbc2)
  | mbc3 (m : Mbc3)
  | mbc5 (m : Mbc5)
  deriving DecidableEq, Repr

/-- The mapper kinds (R6, R120). -/
inductive MapperKind where
  | none | mbc1 | mbc2 | mbc3 | mbc5
  deriving DecidableEq, Repr

/-- The mapper state after reset (R45). -/
def Mapper.reset : MapperKind → Mapper
  | .none => .none
  | .mbc1 => .mbc1 { ramEnable := false, bank1 := 1, bank2 := 0, mode := 0 }
  | .mbc2 => .mbc2 { ramEnable := false, romBank := 1 }
  | .mbc3 => .mbc3 { ramEnable := false, romBank := 1, ramRtcSel := 0, rtc := ⟨0, 0, 0, 0, 0⟩, latchPrev := 0xFF }
  | .mbc5 => .mbc5 { ramEnable := false, romBank := 1, ramBank := 0 }

/-- The kind a mapper state belongs to. -/
def Mapper.kind : Mapper → MapperKind
  | .none => .none
  | .mbc1 _ => .mbc1
  | .mbc2 _ => .mbc2
  | .mbc3 _ => .mbc3
  | .mbc5 _ => .mbc5

/-- The backing stores (R44, R41, R42). The images `rom` and `bootRom` are inputs that no step writes (R454). -/
structure Stores where
  rom : Memory
  bootRom : Memory
  cartRam : Memory
  vram : Memory
  wram : Memory
  oam : Memory
  hram : Memory
  bgPalRam : Memory
  objPalRam : Memory
  framebuffer : Memory
  deriving DecidableEq, Repr

/-- The machine. -/
structure State where
  cpu    : Cpu
  irq    : Irq
  timer  : Timer
  joypad : Joypad
  dma    : OamDma
  ppu    : Ppu
  cgb    : Cgb
  mapper : Mapper
  /-- The boot ROM overlays low ROM (R45, R131). -/
  bootMapped : Bool
  mem : Stores
  /-- The parameters, fixed for the machine's life (R47, log entry 16). -/
  cfg : Config
  /-- The model's own field: which free moment comes next (log entry 3). -/
  freeCount : Nat
  deriving DecidableEq, Repr

/-- The images `create` receives (R450). -/
structure Images where
  rom : Memory
  bootRom : Memory
  cartRam : Memory
  deriving DecidableEq, Repr

/-- The state a reset leaves: every element from the profile, and 0 for what R452 fixes at 0 (R450 step 3). -/
def State.ofProfile (cfg : Config) (kind : MapperKind) (bootMapped : Bool) (img : Images) (p : ResetProfile) : State :=
  { cpu := { a := p.a, f := p.f, b := p.b, c := p.c, d := p.d, e := p.e, h := p.h, l := p.l, sp := p.sp, pc := p.pc
             ime := false, halted := false, stopped := false, eiPending := false, haltBug := false, crashed := false }
    irq := { ifReg := p.ifReg, ie := p.ie }
    timer := { div := p.div, tima := p.tima, tma := p.tma, tac := p.tac, divCounter := 0, timaCounter := 0 }
    joypad := { sel := p.joypSel, keys := 0 }
    dma := { reg := p.dmaReg, cyclesLeft := 0 }
    ppu := { lcdc := p.lcdc, statEn := p.statEn, scy := p.scy, scx := p.scx, ly := p.ly, lyc := p.lyc, wy := p.wy, wx := p.wx
             bgp := p.bgp, obp0 := p.obp0, obp1 := p.obp1, scanCounter := p.scanCounter, mode := p.mode
             windowLine := 0, bgPrio := List.replicate 160 false, frameReady := false }
    cgb := { vbk := p.vbk, svbk := p.svbk, bcps := p.bcps, ocps := p.ocps }
    mapper := .reset kind
    bootMapped := bootMapped
    mem := { rom := img.rom, bootRom := img.bootRom, cartRam := img.cartRam, vram := p.vram, wram := p.wram, oam := p.oam
             hram := p.hram, bgPalRam := p.bgPalRam, objPalRam := p.objPalRam, framebuffer := [] }
    cfg := cfg
    freeCount := 0 }

/-- The machine right after reset: the default parameters, no boot ROM, the post-boot DMG profile (R48, R450, R451), and an
image of which nothing is listed. A program comes in from outside, through `create` or `withFetchWord` (log entries 1 and 2). -/
def State.reset : State :=
  .ofProfile .default .none false ⟨[], [], []⟩ .postBootDmg

/-- The reasons a step ends in a fault: none. Every access succeeds (R77, R383) and an illegal opcode is a state, `crashed`
(R380, 93 U5), not a stop; so no operation raises one. -/
inductive Fault where
  deriving DecidableEq, Repr

/-- The reasons `exec` gives no meaning. -/
inductive Refusal where
  /-- An arm of `exec` that has no meaning yet; raised by `exec` alone; safe, since nothing is claimed of it. No arm is left. -/
  | notModelled (mnemonic : String)
  deriving DecidableEq, Repr

/-- What a meaning, `exec` and `step` answer. -/
abbrev Result := Host.Outcome State Fault Refusal

end Sys2Proof.Machine
end

