-- ==== Sys2Proof/Machine/Mapper.lean ====
section
/-! DEFINITION. The cartridge mappers (20_memory.md R120 to R129): control writes, the switchable ROM bank, and where a
cartridge RAM address lands. -/

namespace Sys2Proof.Machine

/-- The mapper kind a cartridge's byte 0x0147 names; `Option.none` is UnsupportedCartridge (R120, R382). -/
def MapperKind.ofHeader (v : Byte) : Option MapperKind :=
  if v ∈ [0x00#8, 0x08#8, 0x09#8] then some .none
  else if v ∈ [0x01#8, 0x02#8, 0x03#8] then some .mbc1
  else if v ∈ [0x05#8, 0x06#8] then some .mbc2
  else if v ∈ [0x0F#8, 0x10#8, 0x11#8, 0x12#8, 0x13#8] then some .mbc3
  else if v ∈ [0x19#8, 0x1A#8, 0x1B#8, 0x1C#8, 0x1D#8, 0x1E#8] then some .mbc5
  else Option.none

/-- `RomBankN`, the bank at 0x4000 (R122, R124, R125, R126, R128). -/
def Mapper.romBankN : Mapper → Nat
  | .none => 1
  | .mbc1 m => if m.mode = 0 then m.bank2.toNat * 32 + m.bank1.toNat else m.bank1.toNat
  | .mbc2 m => m.romBank.toNat
  | .mbc3 m => m.romBank.toNat
  | .mbc5 m => m.romBank.toNat

/-- "0x0A pattern in low nibble of a control write" (R129). -/
def enablesRam (v : Byte) : Bool := v.extractLsb' 0 4 == 0xA

/-- A bank number where 0 selects 1 (R123, R125, R126). -/
def zeroToOne {w : Nat} (bank : BitVec w) : BitVec w := if bank = 0 then 1 else bank

/-- `MapperControl` of MBC1 (R123). -/
def Mbc1.control (a : Nat) (v : Byte) (m : Mbc1) : Mbc1 :=
  if a < 0x2000 then { m with ramEnable := enablesRam v }
  else if a < 0x4000 then { m with bank1 := zeroToOne (v.extractLsb' 0 5) }
  else if a < 0x6000 then { m with bank2 := v.extractLsb' 0 2 }
  else { m with mode := v.extractLsb' 0 1 }

/-- `MapperControl` of MBC2: address bit 8 selects the latch; above 0x3FFF nothing (R125). -/
def Mbc2.control (a : Nat) (v : Byte) (m : Mbc2) : Mbc2 :=
  if a < 0x4000 then
    if a / 256 % 2 = 0 then { m with ramEnable := enablesRam v }
    else { m with romBank := zeroToOne (v.extractLsb' 0 4) }
  else m

/-- `MapperControl` of MBC3; the 0-then-1 latch copies no clock, so only the last byte is kept (R126, D33). -/
def Mbc3.control (a : Nat) (v : Byte) (m : Mbc3) : Mbc3 :=
  if a < 0x2000 then { m with ramEnable := enablesRam v }
  else if a < 0x4000 then { m with romBank := zeroToOne (v.extractLsb' 0 7) }
  else if a < 0x6000 then { m with ramRtcSel := v.extractLsb' 0 4 }
  else { m with latchPrev := v }

/-- `MapperControl` of MBC5: two latches make the nine bits, with no 0 to 1 adjustment (R128). -/
def Mbc5.control (a : Nat) (v : Byte) (m : Mbc5) : Mbc5 :=
  if a < 0x2000 then { m with ramEnable := enablesRam v }
  else if a < 0x3000 then { m with romBank := m.romBank.extractLsb' 8 1 ++ v }
  else if a < 0x4000 then { m with romBank := v.extractLsb' 0 1 ++ m.romBank.extractLsb' 0 8 }
  else if a < 0x6000 then { m with ramBank := v.extractLsb' 0 4 }
  else m

/-- `MapperControl(a, v)` for `a` in 0x0000..0x7FFF (R83, R122 to R128). -/
def Mapper.control (a : Nat) (v : Byte) : Mapper → Mapper
  | .none => .none
  | .mbc1 m => .mbc1 (m.control a v)
  | .mbc2 m => .mbc2 (m.control a v)
  | .mbc3 m => .mbc3 (m.control a v)
  | .mbc5 m => .mbc5 (m.control a v)

/-- The RAM-enable latch; without a mapper RAM is enabled exactly when there is some (R122, R129). -/
def Mapper.ramEnabled (ramSize : Nat) : Mapper → Bool
  | .none => decide (0 < ramSize)
  | .mbc1 m => m.ramEnable
  | .mbc2 m => m.ramEnable
  | .mbc3 m => m.ramEnable
  | .mbc5 m => m.ramEnable

/-- The five RTC registers by selector (R127). -/
inductive RtcReg where
  | seconds | minutes | hours | dayLow | dayHigh
  deriving DecidableEq, Repr

/-- Selectors 0x8 to 0xC (R127). -/
def RtcReg.ofSelector (sel : BitVec 4) : Option RtcReg :=
  if sel = 0x8 then some .seconds else if sel = 0x9 then some .minutes else if sel = 0xA then some .hours
  else if sel = 0xB then some .dayLow else if sel = 0xC then some .dayHigh else none

/-- A clock register's byte. -/
def Rtc.get (t : Rtc) : RtcReg → Byte
  | .seconds => t.seconds | .minutes => t.minutes | .hours => t.hours | .dayLow => t.dayLow | .dayHigh => t.dayHigh

/-- Stores a clock register (plain storage, R127, D33). -/
def Rtc.set (r : RtcReg) (v : Byte) (t : Rtc) : Rtc :=
  match r with
  | .seconds => { t with seconds := v }
  | .minutes => { t with minutes := v }
  | .hours => { t with hours := v }
  | .dayLow => { t with dayLow := v }
  | .dayHigh => { t with dayHigh := v }

/-- Where an address in 0xA000..0xBFFF lands behind the enable latch. -/
inductive CartPlace where
  /-- A byte of `cartRam`. -/
  | cell (offset : Nat)
  /-- A four-bit cell of MBC2: the low nibble is stored, the high nibble reads 1s (R125). -/
  | nibble (offset : Nat)
  | clock (r : RtcReg)
  /-- Nothing there: reads 0xFF, writes are dropped (R85). -/
  | nothing
  deriving DecidableEq, Repr

/-- A byte of RAM bank `bank`, or nothing when the cartridge has no RAM (R121, R124, R127, R128, D22). -/
def bankPlace (ramSize bank a : Nat) : CartPlace :=
  if ramSize = 0 then .nothing else .cell ((bank * 0x2000 + (a - 0xA000)) % ramSize)

/-- The place `ReadRam` and `WriteRam` resolve `a` to (R122, R124, R125, R127, R128). -/
def Mapper.ramPlace (ramSize a : Nat) : Mapper → CartPlace
  | .none => bankPlace ramSize 0 a
  | .mbc1 m => bankPlace ramSize (if m.mode = 0 then 0 else m.bank2.toNat) a
  | .mbc2 _ => .nibble ((a - 0xA000) % 512)
  | .mbc3 m =>
    if m.ramRtcSel.toNat ≤ 3 then bankPlace ramSize m.ramRtcSel.toNat a
    else match RtcReg.ofSelector m.ramRtcSel with
      | some r => .clock r
      | Option.none => .nothing
  | .mbc5 m => bankPlace ramSize m.ramBank.toNat a

/-- A clock register's byte; only MBC3 has one. -/
def Mapper.clockByte (r : RtcReg) : Mapper → Byte
  | .mbc3 m => m.rtc.get r
  | _ => 0xFF

/-- Stores a clock register. -/
def Mapper.setClock (r : RtcReg) (v : Byte) : Mapper → Mapper
  | .mbc3 m => .mbc3 { m with rtc := m.rtc.set r v }
  | m => m

end Sys2Proof.Machine
end

