-- ==== Sys2Proof/Machine/Bus.lean ====
section
/-! DEFINITION. The memory bus and address dispatcher (20_memory.md R70 to R108, R130, R131): the address map, the I/O traps,
OAM DMA, and the CPU and raw forms of a read and a write. -/

namespace Sys2Proof.Machine

/-- The store's contents. -/
def Stores.get (m : Stores) : Store → Memory
  | .rom => m.rom | .bootRom => m.bootRom | .cartRam => m.cartRam | .vram => m.vram | .wram => m.wram | .oam => m.oam
  | .hram => m.hram | .bgPalRam => m.bgPalRam | .objPalRam => m.objPalRam | .framebuffer => m.framebuffer

/-- Replaces one store's contents. -/
def Stores.set (k : Store) (x : Memory) (m : Stores) : Stores :=
  match k with
  | .rom => { m with rom := x }
  | .bootRom => { m with bootRom := x }
  | .cartRam => { m with cartRam := x }
  | .vram => { m with vram := x }
  | .wram => { m with wram := x }
  | .oam => { m with oam := x }
  | .hram => { m with hram := x }
  | .bgPalRam => { m with bgPalRam := x }
  | .objPalRam => { m with objPalRam := x }
  | .framebuffer => { m with framebuffer := x }

/-- One byte of a backing store. -/
def State.peek (k : Store) (offset : Nat) (s : State) : Byte := (s.mem.get k).read k.blank offset

/-- Stores one byte of a backing store. -/
def State.poke (k : Store) (offset : Nat) (v : Byte) (s : State) : State :=
  { s with mem := s.mem.set k ((s.mem.get k).write k.blank offset v) }

/-- The rows of the address map (R80). -/
inductive Region where
  | rom0 | romN | vram | cartRam | wram | echo | oam | unusable | io | hram | ie
  deriving DecidableEq, Repr

/-- The row an address lies in (R80). -/
def Region.of (a : Word) : Region :=
  let n := a.toNat
  if n < 0x4000 then .rom0 else if n < 0x8000 then .romN else if n < 0xA000 then .vram else if n < 0xC000 then .cartRam
  else if n < 0xE000 then .wram else if n < 0xFE00 then .echo else if n < 0xFEA0 then .oam else if n < 0xFF00 then .unusable
  else if n < 0xFF80 then .io else if n < 0xFFFF then .hram else .ie

/-- The I/O registers of this block (R95). -/
inductive IoReg where
  | joyp | div | tima | tma | tac | ifReg | lcdc | stat | scy | scx | ly | lyc | dma | bgp | obp0 | obp1 | wy | wx
  | vbk | bootOff | bcps | bcpd | ocps | ocpd | svbk
  deriving DecidableEq, Repr

/-- The register at an address; `none` for the out-of-scope and unassigned addresses (R95, R102, R103, R104). -/
def IoReg.ofAddr (a : Word) : Option IoReg :=
  match a.toNat with
  | 0xFF00 => some .joyp
  | 0xFF04 => some .div
  | 0xFF05 => some .tima
  | 0xFF06 => some .tma
  | 0xFF07 => some .tac
  | 0xFF0F => some .ifReg
  | 0xFF40 => some .lcdc
  | 0xFF41 => some .stat
  | 0xFF42 => some .scy
  | 0xFF43 => some .scx
  | 0xFF44 => some .ly
  | 0xFF45 => some .lyc
  | 0xFF46 => some .dma
  | 0xFF47 => some .bgp
  | 0xFF48 => some .obp0
  | 0xFF49 => some .obp1
  | 0xFF4A => some .wy
  | 0xFF4B => some .wx
  | 0xFF4F => some .vbk
  | 0xFF50 => some .bootOff
  | 0xFF68 => some .bcps
  | 0xFF69 => some .bcpd
  | 0xFF6A => some .ocps
  | 0xFF6B => some .ocpd
  | 0xFF70 => some .svbk
  | _ => none

/-- The registers that exist only when `cgb` (R41, R104, D7). -/
def IoReg.cgbOnly : IoReg → Bool
  | .vbk | .bcps | .bcpd | .ocps | .ocpd | .svbk => true
  | _ => false

/-- Whether mode 3 closes VRAM and OAM to the CPU now (R84, R88, D24). -/
def locked (s : State) : Bool := s.cfg.mode3Lock && s.ppu.lcdc.getLsbD 7 && decide (s.ppu.mode = .transfer)

/-- Whether the boot ROM overlays `a` (R131). -/
def bootOverlay (a : Nat) (s : State) : Bool :=
  s.bootMapped && (decide (a < 0x100) ||
    (s.cfg.cgb && decide (0x100 < s.cfg.bootRomSize) && decide (0x200 ≤ a) && decide (a < 0x900)))

/-- The offset of `a` in 0x4000..0x7FFF in the cartridge image (R82, D22). -/
def romOffsetN (a : Nat) (s : State) : Nat := (s.mapper.romBankN * 0x4000 + (a - 0x4000)) % s.cfg.romSize

/-- The VRAM bank the CPU sees (R84). -/
def vramBank (s : State) : Nat := if s.cfg.cgb then s.cgb.vbk.toNat else 0

/-- The offset of `a` in 0x8000..0x9FFF in `vram` (R84). -/
def vramOffset (a : Nat) (s : State) : Nat := vramBank s * 0x2000 + (a - 0x8000)

/-- The WRAM bank at 0xD000 (R86, R41). -/
def wramBank (s : State) : Nat := if s.cfg.cgb then max 1 s.cgb.svbk.toNat else 1

/-- The offset of `a` in 0xC000..0xDFFF in `wram` (R86). -/
def wramOffset (a : Nat) (s : State) : Nat :=
  if a < 0xD000 then a - 0xC000 else wramBank s * 0x1000 + (a - 0xD000)

/-- The offset of `a` in 0x0000..0x3FFF in the cartridge image: `RomOffset0(a) = a` for every mapper (R81, R122 to R128), and
ROM offsets are taken modulo the image size (D22; log entry 4). -/
def romOffset0 (a : Nat) (s : State) : Nat := a % s.cfg.romSize

/-- `ReadRam(a)`, whatever the enable latch (R85, R122 to R128). -/
def cartFetch (a : Nat) (s : State) : Byte :=
  match s.mapper.ramPlace s.cfg.ramSize a with
  | .cell off => s.peek .cartRam off
  | .nibble off => 0xF0 ||| s.peek .cartRam off
  | .clock r => s.mapper.clockByte r
  | .nothing => 0xFF

/-- A read of cartridge RAM behind the enable latch (R85). -/
def cartRead (a : Nat) (s : State) : Byte :=
  if s.mapper.ramEnabled s.cfg.ramSize then cartFetch a s else 0xFF

/-- `WriteRam`, whatever the enable latch (R85, R122 to R128). -/
def cartStore (a : Nat) (v : Byte) (s : State) : State :=
  match s.mapper.ramPlace s.cfg.ramSize a with
  | .cell off => s.poke .cartRam off v
  | .nibble off => s.poke .cartRam off (v &&& 0x0F)
  | .clock r => { s with mapper := s.mapper.setClock r v }
  | .nothing => s

/-- JOYP's low nibble: a selected, pressed key reads 0 (R100). -/
def joypNibble (j : Joypad) : BitVec 4 :=
  let up := j.keys.getLsbD 0
  let right := j.keys.getLsbD 1
  let left := j.keys.getLsbD 2
  let down := j.keys.getLsbD 3
  let a := j.keys.getLsbD 4
  let b := j.keys.getLsbD 5
  let select := j.keys.getLsbD 6
  let start := j.keys.getLsbD 7
  let dirs := !j.sel.getLsbD 0
  let buttons := !j.sel.getLsbD 1
  let high (direction button : Bool) : BitVec 1 := .ofBool (!(dirs && direction || buttons && button))
  high down start ++ high up select ++ high left b ++ high right a

/-- STAT as it reads: bit 7 is 1, bit 2 is LY=LYC, bits 1:0 the mode (R38, R99). -/
def statByte (p : Ppu) : Byte := 1#1 ++ p.statEn ++ BitVec.ofBool (p.ly == p.lyc) ++ p.mode.code

/-- BCPS or OCPS as it reads: bit 6 is 1 (R107). -/
def PalIndex.byte (p : PalIndex) : Byte := BitVec.ofBool p.auto ++ 1#1 ++ p.index

/-- What a BCPS or OCPS write stores (R107). -/
def PalIndex.ofByte (v : Byte) : PalIndex := { auto := v.getLsbD 7, index := v.extractLsb' 0 6 }

/-- The index after a data-port write (R107). -/
def PalIndex.advance (p : PalIndex) : PalIndex := if p.auto then { p with index := p.index + 1 } else p

/-- The read trap of a register (R95 to R101, R105 to R108). -/
def ioRead (r : IoReg) (s : State) : Byte :=
  if r.cgbOnly && !s.cfg.cgb then 0xFF
  else match r with
    | .joyp => 3#2 ++ s.joypad.sel ++ joypNibble s.joypad
    | .div => s.timer.div
    | .tima => s.timer.tima
    | .tma => s.timer.tma
    | .tac => 0x1F#5 ++ s.timer.tac
    | .ifReg => 7#3 ++ s.irq.ifReg
    | .lcdc => s.ppu.lcdc
    | .stat => statByte s.ppu
    | .scy => s.ppu.scy
    | .scx => s.ppu.scx
    | .ly => s.ppu.ly
    | .lyc => s.ppu.lyc
    | .dma => s.dma.reg
    | .bgp => s.ppu.bgp
    | .obp0 => s.ppu.obp0
    | .obp1 => s.ppu.obp1
    | .wy => s.ppu.wy
    | .wx => s.ppu.wx
    | .vbk => 0x7F#7 ++ s.cgb.vbk
    | .bootOff => 0xFF
    | .bcps => s.cgb.bcps.byte
    | .bcpd => s.peek .bgPalRam s.cgb.bcps.index.toNat
    | .ocps => s.cgb.ocps.byte
    | .ocpd => s.peek .objPalRam s.cgb.ocps.index.toNat
    | .svbk => 0x1F#5 ++ s.cgb.svbk

/-- `Dispatch_read(a)` (R72, R80 to R91), with `closed` telling whether the mode-3 lock answers for VRAM and OAM. -/
def dispatchRead (closed : Bool) (port : ReadPort) (a : Word) (s : State) : Byte :=
  let n := a.toNat
  match Region.of a with
  | .rom0 =>
    if bootOverlay n s then s.peek .bootRom n else s.peek .rom (romOffset0 n s)
  | .romN => s.peek .rom (romOffsetN n s)
  | .vram => if closed then 0xFF else s.peek .vram (vramOffset n s)
  | .cartRam => cartRead n s
  | .wram => s.peek .wram (wramOffset n s)
  | .echo => s.peek .wram (wramOffset (n - 0x2000) s)
  | .oam => if closed then 0xFF else s.peek .oam (n - 0xFE00)
  | .unusable => Config.freeByte s.freeCount port a
  | .io =>
    match IoReg.ofAddr a with
    | some r => ioRead r s
    | none => Config.freeByte s.freeCount port a
  | .hram => s.peek .hram (n - 0xFF80)
  | .ie => s.irq.ie

/-- `MemRead(a, 1)` (R72): 0xFF outside HRAM while the DMA window is open, else the dispatcher's byte. -/
def memRead (port : ReadPort) (a : Word) (s : State) : Byte :=
  if 0 < s.dma.cyclesLeft ∧ Region.of a ≠ .hram then 0xFF else dispatchRead (locked s) port a s

/-- `DmaSrc(a)` (R105): `Dispatch_read(a)` without the DMA window and the mode-3 lock; the enable latch of cartridge RAM stays
in force (log entry 9). -/
def dmaSource (port : ReadPort) (a : Word) (s : State) : Byte := dispatchRead false port a s

/-- `RawRead(a)` (R74, D21): no DMA window, no mode-3 lock, no RAM-enable latch. -/
def rawRead (port : ReadPort) (a : Word) (s : State) : Byte :=
  match Region.of a with
  | .cartRam => cartFetch a.toNat s
  | _ => dispatchRead false port a s

/-- The LCDC write trap (R98, D26). -/
def writeLcdc (v : Byte) (s : State) : State :=
  let p := { s.ppu with lcdc := v }
  if s.ppu.lcdc.getLsbD 7 && !v.getLsbD 7 then
    { s with ppu := { p with ly := 0, scanCounter := 0, mode := .hblank, windowLine := 0 } }
  else if !s.ppu.lcdc.getLsbD 7 && v.getLsbD 7 then
    { s with ppu := { p with ly := 0, scanCounter := 0, mode := .oamScan, windowLine := 0 } }
  else { s with ppu := p }

/-- Copies `oam[i] <- DmaSrc(src + i)` for `n` values of `i` from `i` on (R105). -/
def dmaCopy (src : Word) : (n i : Nat) → State → State
  | 0, _, s => s
  | n + 1, i, s => dmaCopy src n (i + 1) (s.poke .oam i (dmaSource (.dma i) (src + BitVec.ofNat 16 i) s))

/-- The bytes one OAM DMA copies (R105). -/
def dmaLength : Nat := 160

/-- The DMA write trap: the copy at once, then the window (R105, D19). -/
def startDma (v : Byte) (s : State) : State :=
  let s := dmaCopy (wordOf v 0) dmaLength 0 { s with dma := { s.dma with reg := v } }
  { s with dma := { s.dma with cyclesLeft := 640 } }

/-- The write trap of a register (R95 to R101, R105 to R108). -/
def ioWrite (r : IoReg) (v : Byte) (s : State) : State :=
  if r.cgbOnly && !s.cfg.cgb then s
  else match r with
    | .joyp => { s with joypad := { s.joypad with sel := v.extractLsb' 4 2 } }
    | .div => { s with timer := { s.timer with div := 0, divCounter := 0 } }
    | .tima => { s with timer := { s.timer with tima := v } }
    | .tma => { s with timer := { s.timer with tma := v } }
    | .tac => { s with timer := { s.timer with tac := v.extractLsb' 0 3 } }
    | .ifReg => { s with irq := { s.irq with ifReg := v.extractLsb' 0 5 } }
    | .lcdc => writeLcdc v s
    | .stat => { s with ppu := { s.ppu with statEn := v.extractLsb' 3 4 } }
    | .scy => { s with ppu := { s.ppu with scy := v } }
    | .scx => { s with ppu := { s.ppu with scx := v } }
    | .ly => s
    | .lyc => { s with ppu := { s.ppu with lyc := v } }
    | .dma => startDma v s
    | .bgp => { s with ppu := { s.ppu with bgp := v } }
    | .obp0 => { s with ppu := { s.ppu with obp0 := v } }
    | .obp1 => { s with ppu := { s.ppu with obp1 := v } }
    | .wy => { s with ppu := { s.ppu with wy := v } }
    | .wx => { s with ppu := { s.ppu with wx := v } }
    | .vbk => { s with cgb := { s.cgb with vbk := v.extractLsb' 0 1 } }
    | .bootOff => if v = 0 then s else { s with bootMapped := false }
    | .bcps => { s with cgb := { s.cgb with bcps := .ofByte v } }
    | .bcpd =>
      let s' := s.poke .bgPalRam s.cgb.bcps.index.toNat v
      { s' with cgb := { s.cgb with bcps := s.cgb.bcps.advance } }
    | .ocps => { s with cgb := { s.cgb with ocps := .ofByte v } }
    | .ocpd =>
      let s' := s.poke .objPalRam s.cgb.ocps.index.toNat v
      { s' with cgb := { s.cgb with ocps := s.cgb.ocps.advance } }
    | .svbk => { s with cgb := { s.cgb with svbk := v.extractLsb' 0 3 } }

/-- `MemWrite(a, 1, v)` (R73, R80): the DMA window does not block it, and it never faults. -/
def memWrite (a : Word) (v : Byte) (s : State) : State :=
  let n := a.toNat
  match Region.of a with
  | .rom0 => { s with mapper := s.mapper.control n v }
  | .romN => { s with mapper := s.mapper.control n v }
  | .vram => if locked s then s else s.poke .vram (vramOffset n s) v
  | .cartRam => if s.mapper.ramEnabled s.cfg.ramSize then cartStore n v s else s
  | .wram => s.poke .wram (wramOffset n s) v
  | .echo => s.poke .wram (wramOffset (n - 0x2000) s) v
  | .oam => if locked s then s else s.poke .oam (n - 0xFE00) v
  | .unusable => s
  | .io =>
    match IoReg.ofAddr a with
    | some r => ioWrite r v s
    | none => s
  | .hram => s.poke .hram (n - 0xFF80) v
  | .ie => { s with irq := { s.irq with ie := v } }

/-- A raw write to a register: the stored bits change and nothing else happens (R74, D21). -/
def ioRawWrite (r : IoReg) (v : Byte) (s : State) : State :=
  if r.cgbOnly && !s.cfg.cgb then s
  else match r with
    | .div => { s with timer := { s.timer with div := v } }
    | .ly => { s with ppu := { s.ppu with ly := v } }
    | .dma => { s with dma := { s.dma with reg := v } }
    | .lcdc => { s with ppu := { s.ppu with lcdc := v } }
    | .bcpd => s.poke .bgPalRam s.cgb.bcps.index.toNat v
    | .ocpd => s.poke .objPalRam s.cgb.ocps.index.toNat v
    | r => ioWrite r v s

/-- `RawWrite(a, v)` (R74, D21). Cartridge RAM is stored whatever the enable latch, if there is any: MBC2 has its own 512 cells
(R121; log entries 10 and 17). -/
def rawWrite (a : Word) (v : Byte) (s : State) : State :=
  let n := a.toNat
  match Region.of a with
  | .rom0 => s
  | .romN => s
  | .vram => s.poke .vram (vramOffset n s) v
  | .cartRam => if s.cfg.ramSize = 0 ∧ s.mapper.kind ≠ .mbc2 then s else cartStore n v s
  | .wram => s.poke .wram (wramOffset n s) v
  | .echo => s.poke .wram (wramOffset (n - 0x2000) s) v
  | .oam => s.poke .oam (n - 0xFE00) v
  | .unusable => s
  | .io =>
    match IoReg.ofAddr a with
    | some r => ioRawWrite r v s
    | none => s
  | .hram => s.poke .hram (n - 0xFF80) v
  | .ie => { s with irq := { s.irq with ie := v } }

/-- Puts a byte where a read of `a` finds it: in the image behind ROM, elsewhere as a raw write. This is loading a program
from outside (log entries 2 and 19), not an access the machine makes. -/
def plantByte (a : Word) (v : Byte) (s : State) : State :=
  let n := a.toNat
  match Region.of a with
  | .rom0 => if bootOverlay n s then s.poke .bootRom n v else s.poke .rom (romOffset0 n s) v
  | .romN => s.poke .rom (romOffsetN n s) v
  | _ => rawWrite a v s

/-- Plants bytes at consecutive addresses. -/
def plantBytes : Word → List Byte → State → State
  | _, [], s => s
  | a, v :: rest, s => plantBytes (a + 1) rest (plantByte a v s)

end Sys2Proof.Machine
end

