-- ==== Sys2Proof/Machine/Ops.lean ====
section
/-! DEFINITION. The named operations over registers, stack, fetch and interrupts (00_scope.md R8 to R11; 60_exceptions.md R353
to R363, R380): the one synchronous exception, interrupt entry and the return from it stand here, each once. -/

namespace Sys2Proof.Machine

/-! ### Registers (R8, R20 to R24) -/

/-- `r8[i]` for a register entry. -/
def Cpu.get (r : R8) (c : Cpu) : Byte :=
  match r with
  | .a => c.a | .b => c.b | .c => c.c | .d => c.d | .e => c.e | .h => c.h | .l => c.l

/-- Writes `r8[i]` for a register entry. -/
def Cpu.set (r : R8) (v : Byte) (c : Cpu) : Cpu :=
  match r with
  | .a => { c with a := v }
  | .b => { c with b := v }
  | .c => { c with c := v }
  | .d => { c with d := v }
  | .e => { c with e := v }
  | .h => { c with h := v }
  | .l => { c with l := v }

/-- The value of an 8-bit register. -/
def State.reg (r : R8) (s : State) : Byte := s.cpu.get r
/-- Writes an 8-bit register. -/
def State.setReg (r : R8) (v : Byte) (s : State) : State := { s with cpu := s.cpu.set r v }
/-- Writes F. -/
def State.setF (v : Byte) (s : State) : State := { s with cpu := { s.cpu with f := v } }
/-- Writes SP. -/
def State.setSp (v : Word) (s : State) : State := { s with cpu := { s.cpu with sp := v } }
/-- Writes PC. -/
def State.setPc (v : Word) (s : State) : State := { s with cpu := { s.cpu with pc := v } }
/-- Writes IME. -/
def State.setIme (v : Bool) (s : State) : State := { s with cpu := { s.cpu with ime := v } }
/-- Writes `halted`. -/
def State.setHalted (v : Bool) (s : State) : State := { s with cpu := { s.cpu with halted := v } }
/-- Writes `stopped`. -/
def State.setStopped (v : Bool) (s : State) : State := { s with cpu := { s.cpu with stopped := v } }
/-- Writes `ei_pending`. -/
def State.setEiPending (v : Bool) (s : State) : State := { s with cpu := { s.cpu with eiPending := v } }
/-- Writes `halt_bug`. -/
def State.setHaltBug (v : Bool) (s : State) : State := { s with cpu := { s.cpu with haltBug := v } }
/-- Writes `crashed`. -/
def State.setCrashed (v : Bool) (s : State) : State := { s with cpu := { s.cpu with crashed := v } }

/-- `r16[i]`: a pair is the concatenation of its registers, not state of its own (R21). -/
def State.pair (p : R16) (s : State) : Word :=
  match p with
  | .bc => wordOf s.cpu.b s.cpu.c
  | .de => wordOf s.cpu.d s.cpu.e
  | .hl => wordOf s.cpu.h s.cpu.l
  | .sp => s.cpu.sp

/-- Writes `r16[i]`: the high byte to the first register, the low byte to the second (R8). -/
def State.setPair (p : R16) (v : Word) (s : State) : State :=
  match p with
  | .bc => (s.setReg .b (hiByte v)).setReg .c (loByte v)
  | .de => (s.setReg .d (hiByte v)).setReg .e (loByte v)
  | .hl => (s.setReg .h (hiByte v)).setReg .l (loByte v)
  | .sp => s.setSp v

/-- `r16stk[i]` (R8). -/
def State.stkPair (p : R16Stk) (s : State) : Word :=
  match p with
  | .bc => s.pair .bc
  | .de => s.pair .de
  | .hl => s.pair .hl
  | .af => wordOf s.cpu.a s.cpu.f

/-- Writes `r16stk[i]`; the low nibble of a byte that goes to F is discarded (R206, R207). -/
def State.setStkPair (p : R16Stk) (v : Word) (s : State) : State :=
  match p with
  | .bc => s.setPair .bc v
  | .de => s.setPair .de v
  | .hl => s.setPair .hl v
  | .af => (s.setReg .a (hiByte v)).setF (loByte v &&& 0xF0)

/-! ### Stack (R10, R200) -/

/-- `Push16(v)`: the high byte at SP-1, then the low byte at SP-2, SP stepping down before each. -/
def push16 (v : Word) (s : State) : State :=
  let s := s.setSp (s.cpu.sp - 1)
  let s := memWrite s.cpu.sp (hiByte v) s
  let s := s.setSp (s.cpu.sp - 1)
  memWrite s.cpu.sp (loByte v) s

/-- The word `Pop16()` returns: the low byte at SP, the high byte at SP+1. -/
def popValue (s : State) : Word := wordOf (memRead .data2 (s.cpu.sp + 1) s) (memRead .data1 s.cpu.sp s)

/-- The state `Pop16()` leaves: SP two higher. -/
def afterPop (s : State) : State := s.setSp (s.cpu.sp + 2)

/-! ### Fetch (R10, R24, R144) -/

/-- Where the byte after the opcode is fetched from: PC does not move past the opcode when the HALT bug is armed (R29, R331). -/
def operandAddr (s : State) : Word := if s.cpu.haltBug then s.cpu.pc else s.cpu.pc + 1

/-- The opcode byte at PC. -/
def opcodeByte (s : State) : Byte := memRead .opcode s.cpu.pc s

/-- The instruction at PC, its bytes fetched through the bus in address order. -/
def fetchedInstr (s : State) : Instr :=
  decode3 (opcodeByte s) (memRead .operand1 (operandAddr s) s) (memRead .operand2 (operandAddr s + 1) s)

/-- The state after the fetch: PC past the whole instruction, the HALT bug consumed. -/
def afterFetch (s : State) : State :=
  (s.setPc (operandAddr s + BitVec.ofNat 16 ((formatOf (opcodeByte s)).length - 1))).setHaltBug false

/-! ### Interrupts (R353 to R363) and the illegal opcode (R380) -/

/-- The five sources, in index order (R353). -/
inductive Source where
  | vblank | stat | timer | serial | joypad
  deriving DecidableEq, Repr

/-- A source's bit in IF and IE (R353). -/
def Source.index : Source → Nat
  | .vblank => 0 | .stat => 1 | .timer => 2 | .serial => 3 | .joypad => 4

/-- A source's vector, `0x40 + index * 8` (R353, R362). -/
def Source.vector : Source → Word
  | .vblank => 0x40 | .stat => 0x48 | .timer => 0x50 | .serial => 0x58 | .joypad => 0x60

/-- The mask with a source's bit alone. -/
def Source.bit (i : Source) : BitVec 5 := 1 <<< i.index

/-- `RequestInterrupt(i)`: `IF[i] <- 1` and nothing else (R354). -/
def requestInterrupt (i : Source) (s : State) : State := { s with irq := { s.irq with ifReg := s.irq.ifReg ||| i.bit } }

/-- Requests an interrupt when the condition holds. -/
def requestIf (cond : Bool) (i : Source) (s : State) : State := if cond then requestInterrupt i s else s

/-- `pending = IF[4:0] & IE[4:0]` (R355). -/
def pendingBits (s : State) : BitVec 5 := s.irq.ifReg &&& s.irq.ie.extractLsb' 0 5

/-- The lowest-indexed source of a set of bits (R361, R366). -/
def lowestSource (p : BitVec 5) : Option Source :=
  if p.getLsbD 0 then some .vblank else if p.getLsbD 1 then some .stat else if p.getLsbD 2 then some .timer
  else if p.getLsbD 3 then some .serial else if p.getLsbD 4 then some .joypad else none

/-- `Dispatch(i)`, taking an interrupt, in the order R362 gives: IME, the EI latch, `halted` and the HALT bug cleared, the
IF bit cleared, PC pushed, PC set to the vector. The 20 cycles are billed by `serviceInterrupts`. The next free moment
begins after the push (log entry 3). -/
def dispatch (i : Source) (s : State) : State :=
  let s := (((s.setIme false).setEiPending false).setHalted false).setHaltBug false
  let s := { s with irq := { s.irq with ifReg := s.irq.ifReg &&& ~~~i.bit } }
  let s := (push16 s.cpu.pc s).setPc i.vector
  { s with freeCount := s.freeCount + 1 }

/-- The halt wake (R363). -/
def wakeHalt (s : State) : State :=
  if s.cpu.halted && pendingBits s != 0 then s.setHalted false else s

/-- The interrupt check at the top of a step: the wake, then at most one dispatch (R361, R363, R366). The number is the
cycles billed, 20 for a dispatch (R362). -/
def serviceInterrupts (s : State) : State × Nat :=
  let s := wakeHalt s
  match lowestSource (pendingBits s) with
  | some i => if s.cpu.ime then (dispatch i s, 20) else (s, 0)
  | none => (s, 0)

/-- `raise IllegalOpcode(op)`, the one synchronous exception: `crashed <- 1`; nothing is pushed, no vector is entered, and
the opcode is recorded nowhere (R336, R351, R380). -/
def raiseIllegal (s : State) : State := s.setCrashed true

/-- RETI, the return from an interrupt: `PC <- Pop16(); IME <- 1`, at once (R320, R367). -/
def returnFromInterrupt (s : State) : State := ((afterPop s).setPc (popValue s)).setIme true

/-- The EI latch is consumed at the end of an instruction that began with it set, unless a DI cleared it (R365). -/
def consumeEi (was : Bool) (s : State) : State :=
  if !s.cpu.crashed && was && s.cpu.eiPending then (s.setIme true).setEiPending false else s

end Sys2Proof.Machine
end

