-- ==== Sys2Proof/Machine/Operands.lean ====
section
/-! DEFINITION. The operand forms (30_encoding.md R142, R143, R163): the byte at HL, the high page, the conditions, the signed displacement. -/

namespace Sys2Proof.Machine

/-- The address HL holds. -/
def hlAddr (s : State) : Word := s.pair .hl

/-- `r8[6]`, the byte at HL (R8). -/
def readHL (s : State) : Byte := memRead .data1 (hlAddr s) s

/-- Writes `r8[6]` (R8). -/
def writeHL (v : Byte) (s : State) : State := memWrite (hlAddr s) v s

/-- The address `0xFF00 + n` of an LDH form (R143). -/
def highPage (n : Byte) : Word := wordOf 0xFF n

/-- A displacement sign-extended to 16 bits, `sext_8(e)` modulo 2^16 (R7, R143). -/
def displacement (e : Byte) : Word := e.signExtend 16

/-- The flags, F bits 7 to 4 (R8, R23). -/
def State.flagZ (s : State) : Bool := s.cpu.f.getLsbD 7
/-- F bit 6. -/
def State.flagN (s : State) : Bool := s.cpu.f.getLsbD 6
/-- F bit 5. -/
def State.flagH (s : State) : Bool := s.cpu.f.getLsbD 5
/-- F bit 4. -/
def State.flagC (s : State) : Bool := s.cpu.f.getLsbD 4

/-- `cond(cc)` (R11). -/
def condHolds (cc : Cond) (s : State) : Bool :=
  match cc with
  | .nz => !s.flagZ
  | .z => s.flagZ
  | .nc => !s.flagC
  | .c => s.flagC

end Sys2Proof.Machine
end

