-- ==== Sys2Proof/Machine/Flags.lean ====
section
/-! DEFINITION. The results and flags of the arithmetic, as exact integers narrowed at the end: 42_alu8.md R215 to R247,
43_alu16.md R260 to R264, 44_rotate_shift_bit.md R270. -/

namespace Sys2Proof.Machine

/-- The byte `z<<7 | n<<6 | h<<5 | c<<4` (R8). -/
def flagsByte (z n h c : Bool) : Byte :=
  BitVec.ofBool z ++ BitVec.ofBool n ++ BitVec.ofBool h ++ BitVec.ofBool c ++ 0#4

/-- `flags <- (z, n, h, c)` (R8). -/
def State.setFlags (z n h c : Bool) (s : State) : State := s.setF (flagsByte z n h c)

/-- `(result, z, n, h, c)` of an 8-bit operation (R215). -/
structure Alu8 where
  value : Byte
  z : Bool
  n : Bool
  h : Bool
  c : Bool
  deriving DecidableEq, Repr

/-- `add8(a, b, cin)` (R215). -/
def add8 (a b : Byte) (cin : Bool) : Alu8 :=
  let sum := a.toNat + b.toNat + cin.toNat
  let r := BitVec.ofNat 8 sum
  { value := r, z := r == 0, n := false
    h := decide (0xF < a.toNat % 16 + b.toNat % 16 + cin.toNat)
    c := decide (0xFF < sum) }

/-- `sub8(a, b, cin)` (R215). -/
def sub8 (a b : Byte) (cin : Bool) : Alu8 :=
  let r := BitVec.ofInt 8 ((a.toNat : Int) - b.toNat - cin.toNat)
  { value := r, z := r == 0, n := true
    h := decide (a.toNat % 16 < b.toNat % 16 + cin.toNat)
    c := decide (a.toNat < b.toNat + cin.toNat) }

/-- A bitwise result: Z from the value, N and C clear (R228 to R236). -/
def logic8 (r : Byte) (h : Bool) : Alu8 := { value := r, z := r == 0, n := false, h := h, c := false }

/-- `alu[y]` on A, the operand and the carry flag (R216 to R239); CP computes as SUB. -/
def aluResult (op : AluOp) (a b : Byte) (carry : Bool) : Alu8 :=
  match op with
  | .add => add8 a b false
  | .adc => add8 a b carry
  | .sub => sub8 a b false
  | .sbc => sub8 a b carry
  | .and => logic8 (a &&& b) true
  | .xor => logic8 (a ^^^ b) false
  | .or => logic8 (a ||| b) false
  | .cp => sub8 a b false

/-- Whether the operation writes A: all but CP (R237). -/
def writesA : AluOp → Bool
  | .cp => false
  | _ => true

/-- `inc8(a)` with the carry flag passed through (R215, R240). -/
def inc8 (a : Byte) (carry : Bool) : Alu8 :=
  let r := a + 1
  { value := r, z := r == 0, n := false, h := decide (a.toNat % 16 = 0xF), c := carry }

/-- `dec8(a)` with the carry flag passed through (R215, R242). -/
def dec8 (a : Byte) (carry : Bool) : Alu8 :=
  let r := a - 1
  { value := r, z := r == 0, n := true, h := decide (a.toNat % 16 = 0), c := carry }

/-- DAA on A with the flags N, H, C before it (R244). -/
def daa8 (a : Byte) (n h c : Bool) : Alu8 :=
  if n then
    let adj := (if h then 0x06#8 else 0) ||| (if c then 0x60#8 else 0)
    let r := a - adj
    { value := r, z := r == 0, n := true, h := false, c := c }
  else
    let low := h || decide (9 < a.toNat % 16)
    let high := c || decide (0x99 < a.toNat)
    let adj := (if low then 0x06#8 else 0) ||| (if high then 0x60#8 else 0)
    let r := a + adj
    { value := r, z := r == 0, n := false, h := false, c := high }

/-- The operation functions of the CB page: the result and the carry out (R270). -/
def rotate (op : RotOp) (v : Byte) (cin : Bool) : Byte × Bool :=
  match op with
  | .rlc => ((v <<< 1) ||| (v >>> 7), v.getLsbD 7)
  | .rrc => ((v >>> 1) ||| (v <<< 7), v.getLsbD 0)
  | .rl => ((v <<< 1) ||| (BitVec.ofBool cin).setWidth 8, v.getLsbD 7)
  | .rr => ((v >>> 1) ||| ((BitVec.ofBool cin).setWidth 8 <<< 7), v.getLsbD 0)
  | .sla => (v <<< 1, v.getLsbD 7)
  | .sra => ((v >>> 1) ||| (v &&& 0x80), v.getLsbD 0)
  | .swap => ((v <<< 4) ||| (v >>> 4), false)
  | .srl => (v >>> 1, v.getLsbD 0)

/-- `SP + sext_8(e)` and its flags: Z and N clear, H and C the carries out of bits 3 and 7 of the low-byte addition, with
`e` unsigned (R204, R264, 90_conflicts.md C1). -/
def spPlus (sp : Word) (e : Byte) : Word × Byte :=
  (sp + displacement e,
   flagsByte false false (decide (0xF < sp.toNat % 16 + e.toNat % 16)) (decide (0xFF < sp.toNat % 256 + e.toNat)))

/-- `HL + v` with H from bit 11 and C from bit 15 (R261). -/
def add16 (hl v : Word) : Word × Bool × Bool :=
  (hl + v, decide (0xFFF < hl.toNat % 4096 + v.toNat % 4096), decide (0xFFFF < hl.toNat + v.toNat))

end Sys2Proof.Machine
end

