-- ==== Sys2Proof/Machine/Alu16.lean ====
section
/-! DEFINITION. The 16-bit arithmetic (43_alu16.md R260 to R264). The shared operations come first, then one meaning for each instruction. -/

namespace Sys2Proof.Machine

/-- `ADD HL,rr`: Z kept, N cleared (R261). -/
def addHLPair (p : R16) (s : State) : State :=
  let r := add16 (s.pair .hl) (s.pair p)
  (s.setPair .hl r.1).setFlags s.flagZ false r.2.1 r.2.2
/-- `INC rr`, no flag (R262). -/
def incPair (p : R16) (s : State) : State := s.setPair p (s.pair p + 1)
/-- `DEC rr`, no flag (R263). -/
def decPair (p : R16) (s : State) : State := s.setPair p (s.pair p - 1)
/-- `ADD SP,e` (R264). -/
def addSp (e : Byte) (s : State) : State := (s.setSp (spPlus s.cpu.sp e).1).setF (spPlus s.cpu.sp e).2

/-- `INC BC` (R262). -/
def execIncBC (s : State) : Result := .next (incPair .bc s)
/-- `ADD HL,BC` (R261). -/
def execAddHLBC (s : State) : Result := .next (addHLPair .bc s)
/-- `DEC BC` (R263). -/
def execDecBC (s : State) : Result := .next (decPair .bc s)
/-- `INC DE` (R262). -/
def execIncDE (s : State) : Result := .next (incPair .de s)
/-- `ADD HL,DE` (R261). -/
def execAddHLDE (s : State) : Result := .next (addHLPair .de s)
/-- `DEC DE` (R263). -/
def execDecDE (s : State) : Result := .next (decPair .de s)
/-- `INC HL` (R262). -/
def execIncHL (s : State) : Result := .next (incPair .hl s)
/-- `ADD HL,HL` (R261). -/
def execAddHLHL (s : State) : Result := .next (addHLPair .hl s)
/-- `DEC HL` (R263). -/
def execDecHL (s : State) : Result := .next (decPair .hl s)
/-- `INC SP` (R262). -/
def execIncSP (s : State) : Result := .next (incPair .sp s)
/-- `ADD HL,SP` (R261). -/
def execAddHLSP (s : State) : Result := .next (addHLPair .sp s)
/-- `DEC SP` (R263). -/
def execDecSP (s : State) : Result := .next (decPair .sp s)
/-- `ADD SP,e` (R264). -/
def execAddSPe (e : Byte) (s : State) : Result := .next (addSp e s)

end Sys2Proof.Machine
end

