-- ==== Sys2Proof/Machine/Alu8.lean ====
section
/-! DEFINITION. The 8-bit arithmetic and logic (42_alu8.md R215 to R247). The shared operations come first, then one meaning for each instruction. -/

namespace Sys2Proof.Machine

/-- Writes the flags of an 8-bit result. -/
def setAluFlags (r : Alu8) (s : State) : State := s.setFlags r.z r.n r.h r.c
/-- The accumulator operation on operand `v`: A is written except by CP, then the flags (R216 to R239). -/
def aluApply (op : AluOp) (v : Byte) (s : State) : State :=
  let r := aluResult op s.cpu.a v s.flagC
  setAluFlags r (if writesA op then s.setReg .a r.value else s)
/-- The form with a register operand. -/
def aluReg (op : AluOp) (r : R8) (s : State) : State := aluApply op (s.reg r) s
/-- The form with `(HL)`. -/
def aluMem (op : AluOp) (s : State) : State := aluApply op (readHL s) s
/-- The form with an immediate. -/
def aluImm (op : AluOp) (n : Byte) (s : State) : State := aluApply op n s
/-- `INC r` (R240). -/
def incReg (r : R8) (s : State) : State :=
  setAluFlags (inc8 (s.reg r) s.flagC) (s.setReg r (inc8 (s.reg r) s.flagC).value)
/-- `DEC r` (R242). -/
def decReg (r : R8) (s : State) : State :=
  setAluFlags (dec8 (s.reg r) s.flagC) (s.setReg r (dec8 (s.reg r) s.flagC).value)
/-- `INC (HL)`: one read, then one write of the same address (R241). -/
def incMem (s : State) : State :=
  setAluFlags (inc8 (readHL s) s.flagC) (writeHL (inc8 (readHL s) s.flagC).value s)
/-- `DEC (HL)` (R243). -/
def decMem (s : State) : State :=
  setAluFlags (dec8 (readHL s) s.flagC) (writeHL (dec8 (readHL s) s.flagC).value s)
/-- `DAA` (R244). -/
def decimalAdjust (s : State) : State :=
  let r := daa8 s.cpu.a s.flagN s.flagH s.flagC
  setAluFlags r (s.setReg .a r.value)
/-- `CPL`: A inverted, N and H set, Z and C kept (R245). -/
def complementA (s : State) : State := (s.setReg .a (s.cpu.a ^^^ 0xFF)).setFlags s.flagZ true true s.flagC
/-- `SCF` (R246). -/
def setCarry (s : State) : State := s.setFlags s.flagZ false false true
/-- `CCF` (R247). -/
def complementCarry (s : State) : State := s.setFlags s.flagZ false false (!s.flagC)

/-- `INC B` (R240). -/
def execIncB (s : State) : Result := .next (incReg .b s)
/-- `DEC B` (R242). -/
def execDecB (s : State) : Result := .next (decReg .b s)
/-- `INC C` (R240). -/
def execIncC (s : State) : Result := .next (incReg .c s)
/-- `DEC C` (R242). -/
def execDecC (s : State) : Result := .next (decReg .c s)
/-- `INC D` (R240). -/
def execIncD (s : State) : Result := .next (incReg .d s)
/-- `DEC D` (R242). -/
def execDecD (s : State) : Result := .next (decReg .d s)
/-- `INC E` (R240). -/
def execIncE (s : State) : Result := .next (incReg .e s)
/-- `DEC E` (R242). -/
def execDecE (s : State) : Result := .next (decReg .e s)
/-- `INC H` (R240). -/
def execIncH (s : State) : Result := .next (incReg .h s)
/-- `DEC H` (R242). -/
def execDecH (s : State) : Result := .next (decReg .h s)
/-- `DAA` (R244). -/
def execDaa (s : State) : Result := .next (decimalAdjust s)
/-- `INC L` (R240). -/
def execIncL (s : State) : Result := .next (incReg .l s)
/-- `DEC L` (R242). -/
def execDecL (s : State) : Result := .next (decReg .l s)
/-- `CPL` (R245). -/
def execCpl (s : State) : Result := .next (complementA s)
/-- `INC (HL)` (R241). -/
def execIncIndHL (s : State) : Result := .next (incMem s)
/-- `DEC (HL)` (R243). -/
def execDecIndHL (s : State) : Result := .next (decMem s)
/-- `SCF` (R246). -/
def execScf (s : State) : Result := .next (setCarry s)
/-- `INC A` (R240). -/
def execIncA (s : State) : Result := .next (incReg .a s)
/-- `DEC A` (R242). -/
def execDecA (s : State) : Result := .next (decReg .a s)
/-- `CCF` (R247). -/
def execCcf (s : State) : Result := .next (complementCarry s)
/-- `ADD A,B` (R216). -/
def execAddAB (s : State) : Result := .next (aluReg .add .b s)
/-- `ADD A,C` (R216). -/
def execAddAC (s : State) : Result := .next (aluReg .add .c s)
/-- `ADD A,D` (R216). -/
def execAddAD (s : State) : Result := .next (aluReg .add .d s)
/-- `ADD A,E` (R216). -/
def execAddAE (s : State) : Result := .next (aluReg .add .e s)
/-- `ADD A,H` (R216). -/
def execAddAH (s : State) : Result := .next (aluReg .add .h s)
/-- `ADD A,L` (R216). -/
def execAddAL (s : State) : Result := .next (aluReg .add .l s)
/-- `ADD A,(HL)` (R217). -/
def execAddAIndHL (s : State) : Result := .next (aluMem .add s)
/-- `ADD A,A` (R216). -/
def execAddAA (s : State) : Result := .next (aluReg .add .a s)
/-- `ADC A,B` (R219). -/
def execAdcAB (s : State) : Result := .next (aluReg .adc .b s)
/-- `ADC A,C` (R219). -/
def execAdcAC (s : State) : Result := .next (aluReg .adc .c s)
/-- `ADC A,D` (R219). -/
def execAdcAD (s : State) : Result := .next (aluReg .adc .d s)
/-- `ADC A,E` (R219). -/
def execAdcAE (s : State) : Result := .next (aluReg .adc .e s)
/-- `ADC A,H` (R219). -/
def execAdcAH (s : State) : Result := .next (aluReg .adc .h s)
/-- `ADC A,L` (R219). -/
def execAdcAL (s : State) : Result := .next (aluReg .adc .l s)
/-- `ADC A,(HL)` (R220). -/
def execAdcAIndHL (s : State) : Result := .next (aluMem .adc s)
/-- `ADC A,A` (R219). -/
def execAdcAA (s : State) : Result := .next (aluReg .adc .a s)
/-- `SUB B` (R222). -/
def execSubB (s : State) : Result := .next (aluReg .sub .b s)
/-- `SUB C` (R222). -/
def execSubC (s : State) : Result := .next (aluReg .sub .c s)
/-- `SUB D` (R222). -/
def execSubD (s : State) : Result := .next (aluReg .sub .d s)
/-- `SUB E` (R222). -/
def execSubE (s : State) : Result := .next (aluReg .sub .e s)
/-- `SUB H` (R222). -/
def execSubH (s : State) : Result := .next (aluReg .sub .h s)
/-- `SUB L` (R222). -/
def execSubL (s : State) : Result := .next (aluReg .sub .l s)
/-- `SUB (HL)` (R223). -/
def execSubIndHL (s : State) : Result := .next (aluMem .sub s)
/-- `SUB A` (R222). -/
def execSubA (s : State) : Result := .next (aluReg .sub .a s)
/-- `SBC A,B` (R225). -/
def execSbcAB (s : State) : Result := .next (aluReg .sbc .b s)
/-- `SBC A,C` (R225). -/
def execSbcAC (s : State) : Result := .next (aluReg .sbc .c s)
/-- `SBC A,D` (R225). -/
def execSbcAD (s : State) : Result := .next (aluReg .sbc .d s)
/-- `SBC A,E` (R225). -/
def execSbcAE (s : State) : Result := .next (aluReg .sbc .e s)
/-- `SBC A,H` (R225). -/
def execSbcAH (s : State) : Result := .next (aluReg .sbc .h s)
/-- `SBC A,L` (R225). -/
def execSbcAL (s : State) : Result := .next (aluReg .sbc .l s)
/-- `SBC A,(HL)` (R226). -/
def execSbcAIndHL (s : State) : Result := .next (aluMem .sbc s)
/-- `SBC A,A` (R225). -/
def execSbcAA (s : State) : Result := .next (aluReg .sbc .a s)
/-- `AND B` (R228). -/
def execAndB (s : State) : Result := .next (aluReg .and .b s)
/-- `AND C` (R228). -/
def execAndC (s : State) : Result := .next (aluReg .and .c s)
/-- `AND D` (R228). -/
def execAndD (s : State) : Result := .next (aluReg .and .d s)
/-- `AND E` (R228). -/
def execAndE (s : State) : Result := .next (aluReg .and .e s)
/-- `AND H` (R228). -/
def execAndH (s : State) : Result := .next (aluReg .and .h s)
/-- `AND L` (R228). -/
def execAndL (s : State) : Result := .next (aluReg .and .l s)
/-- `AND (HL)` (R229). -/
def execAndIndHL (s : State) : Result := .next (aluMem .and s)
/-- `AND A` (R228). -/
def execAndA (s : State) : Result := .next (aluReg .and .a s)
/-- `XOR B` (R231). -/
def execXorB (s : State) : Result := .next (aluReg .xor .b s)
/-- `XOR C` (R231). -/
def execXorC (s : State) : Result := .next (aluReg .xor .c s)
/-- `XOR D` (R231). -/
def execXorD (s : State) : Result := .next (aluReg .xor .d s)
/-- `XOR E` (R231). -/
def execXorE (s : State) : Result := .next (aluReg .xor .e s)
/-- `XOR H` (R231). -/
def execXorH (s : State) : Result := .next (aluReg .xor .h s)
/-- `XOR L` (R231). -/
def execXorL (s : State) : Result := .next (aluReg .xor .l s)
/-- `XOR (HL)` (R232). -/
def execXorIndHL (s : State) : Result := .next (aluMem .xor s)
/-- `XOR A` (R231). -/
def execXorA (s : State) : Result := .next (aluReg .xor .a s)
/-- `OR B` (R234). -/
def execOrB (s : State) : Result := .next (aluReg .or .b s)
/-- `OR C` (R234). -/
def execOrC (s : State) : Result := .next (aluReg .or .c s)
/-- `OR D` (R234). -/
def execOrD (s : State) : Result := .next (aluReg .or .d s)
/-- `OR E` (R234). -/
def execOrE (s : State) : Result := .next (aluReg .or .e s)
/-- `OR H` (R234). -/
def execOrH (s : State) : Result := .next (aluReg .or .h s)
/-- `OR L` (R234). -/
def execOrL (s : State) : Result := .next (aluReg .or .l s)
/-- `OR (HL)` (R235). -/
def execOrIndHL (s : State) : Result := .next (aluMem .or s)
/-- `OR A` (R234). -/
def execOrA (s : State) : Result := .next (aluReg .or .a s)
/-- `CP B` (R237). -/
def execCpB (s : State) : Result := .next (aluReg .cp .b s)
/-- `CP C` (R237). -/
def execCpC (s : State) : Result := .next (aluReg .cp .c s)
/-- `CP D` (R237). -/
def execCpD (s : State) : Result := .next (aluReg .cp .d s)
/-- `CP E` (R237). -/
def execCpE (s : State) : Result := .next (aluReg .cp .e s)
/-- `CP H` (R237). -/
def execCpH (s : State) : Result := .next (aluReg .cp .h s)
/-- `CP L` (R237). -/
def execCpL (s : State) : Result := .next (aluReg .cp .l s)
/-- `CP (HL)` (R238). -/
def execCpIndHL (s : State) : Result := .next (aluMem .cp s)
/-- `CP A` (R237). -/
def execCpA (s : State) : Result := .next (aluReg .cp .a s)
/-- `ADD A,n` (R218). -/
def execAddAn (n : Byte) (s : State) : Result := .next (aluImm .add n s)
/-- `ADC A,n` (R221). -/
def execAdcAn (n : Byte) (s : State) : Result := .next (aluImm .adc n s)
/-- `SUB n` (R224). -/
def execSubn (n : Byte) (s : State) : Result := .next (aluImm .sub n s)
/-- `SBC A,n` (R227). -/
def execSbcAn (n : Byte) (s : State) : Result := .next (aluImm .sbc n s)
/-- `AND n` (R230). -/
def execAndn (n : Byte) (s : State) : Result := .next (aluImm .and n s)
/-- `XOR n` (R233). -/
def execXorn (n : Byte) (s : State) : Result := .next (aluImm .xor n s)
/-- `OR n` (R236). -/
def execOrn (n : Byte) (s : State) : Result := .next (aluImm .or n s)
/-- `CP n` (R239). -/
def execCpn (n : Byte) (s : State) : Result := .next (aluImm .cp n s)

end Sys2Proof.Machine
end

