-- ==== Sys2Proof/Machine/Bit.lean ====
section
/-! DEFINITION. The bit operations (44_rotate_shift_bit.md R291 to R296). The shared operations come first, then one meaning for each instruction. -/

namespace Sys2Proof.Machine

/-- `1 << b`. -/
def bitMask (b : BitNum) : Byte := 1 <<< b.toNat
/-- The flags of BIT on operand `v`: Z is the complement of the bit, N clear, H set, C kept (R291, R292). -/
def testBit (b : BitNum) (v : Byte) (s : State) : State := s.setFlags (!v.getLsbD b.toNat) false true s.flagC
/-- `BIT b,r` (R291). -/
def bitBitReg (b : BitNum) (r : R8) (s : State) : State := testBit b (s.reg r) s
/-- `BIT b,(HL)`, with no write (R292). -/
def bitBitMem (b : BitNum) (s : State) : State := testBit b (readHL s) s
/-- `RES b,r` (R293). -/
def resBitReg (b : BitNum) (r : R8) (s : State) : State := s.setReg r (s.reg r &&& ~~~bitMask b)
/-- `RES b,(HL)`; the write happens whatever the bit was (R294). -/
def resBitMem (b : BitNum) (s : State) : State := writeHL (readHL s &&& ~~~bitMask b) s
/-- `SET b,r` (R295). -/
def setBitReg (b : BitNum) (r : R8) (s : State) : State := s.setReg r (s.reg r ||| bitMask b)
/-- `SET b,(HL)` (R296). -/
def setBitMem (b : BitNum) (s : State) : State := writeHL (readHL s ||| bitMask b) s

/-- `BIT 0,B` (R291). -/
def execBit0B (s : State) : Result := .next (bitBitReg .b0 .b s)
/-- `BIT 0,C` (R291). -/
def execBit0C (s : State) : Result := .next (bitBitReg .b0 .c s)
/-- `BIT 0,D` (R291). -/
def execBit0D (s : State) : Result := .next (bitBitReg .b0 .d s)
/-- `BIT 0,E` (R291). -/
def execBit0E (s : State) : Result := .next (bitBitReg .b0 .e s)
/-- `BIT 0,H` (R291). -/
def execBit0H (s : State) : Result := .next (bitBitReg .b0 .h s)
/-- `BIT 0,L` (R291). -/
def execBit0L (s : State) : Result := .next (bitBitReg .b0 .l s)
/-- `BIT 0,(HL)` (R292). -/
def execBit0IndHL (s : State) : Result := .next (bitBitMem .b0 s)
/-- `BIT 0,A` (R291). -/
def execBit0A (s : State) : Result := .next (bitBitReg .b0 .a s)
/-- `BIT 1,B` (R291). -/
def execBit1B (s : State) : Result := .next (bitBitReg .b1 .b s)
/-- `BIT 1,C` (R291). -/
def execBit1C (s : State) : Result := .next (bitBitReg .b1 .c s)
/-- `BIT 1,D` (R291). -/
def execBit1D (s : State) : Result := .next (bitBitReg .b1 .d s)
/-- `BIT 1,E` (R291). -/
def execBit1E (s : State) : Result := .next (bitBitReg .b1 .e s)
/-- `BIT 1,H` (R291). -/
def execBit1H (s : State) : Result := .next (bitBitReg .b1 .h s)
/-- `BIT 1,L` (R291). -/
def execBit1L (s : State) : Result := .next (bitBitReg .b1 .l s)
/-- `BIT 1,(HL)` (R292). -/
def execBit1IndHL (s : State) : Result := .next (bitBitMem .b1 s)
/-- `BIT 1,A` (R291). -/
def execBit1A (s : State) : Result := .next (bitBitReg .b1 .a s)
/-- `BIT 2,B` (R291). -/
def execBit2B (s : State) : Result := .next (bitBitReg .b2 .b s)
/-- `BIT 2,C` (R291). -/
def execBit2C (s : State) : Result := .next (bitBitReg .b2 .c s)
/-- `BIT 2,D` (R291). -/
def execBit2D (s : State) : Result := .next (bitBitReg .b2 .d s)
/-- `BIT 2,E` (R291). -/
def execBit2E (s : State) : Result := .next (bitBitReg .b2 .e s)
/-- `BIT 2,H` (R291). -/
def execBit2H (s : State) : Result := .next (bitBitReg .b2 .h s)
/-- `BIT 2,L` (R291). -/
def execBit2L (s : State) : Result := .next (bitBitReg .b2 .l s)
/-- `BIT 2,(HL)` (R292). -/
def execBit2IndHL (s : State) : Result := .next (bitBitMem .b2 s)
/-- `BIT 2,A` (R291). -/
def execBit2A (s : State) : Result := .next (bitBitReg .b2 .a s)
/-- `BIT 3,B` (R291). -/
def execBit3B (s : State) : Result := .next (bitBitReg .b3 .b s)
/-- `BIT 3,C` (R291). -/
def execBit3C (s : State) : Result := .next (bitBitReg .b3 .c s)
/-- `BIT 3,D` (R291). -/
def execBit3D (s : State) : Result := .next (bitBitReg .b3 .d s)
/-- `BIT 3,E` (R291). -/
def execBit3E (s : State) : Result := .next (bitBitReg .b3 .e s)
/-- `BIT 3,H` (R291). -/
def execBit3H (s : State) : Result := .next (bitBitReg .b3 .h s)
/-- `BIT 3,L` (R291). -/
def execBit3L (s : State) : Result := .next (bitBitReg .b3 .l s)
/-- `BIT 3,(HL)` (R292). -/
def execBit3IndHL (s : State) : Result := .next (bitBitMem .b3 s)
/-- `BIT 3,A` (R291). -/
def execBit3A (s : State) : Result := .next (bitBitReg .b3 .a s)
/-- `BIT 4,B` (R291). -/
def execBit4B (s : State) : Result := .next (bitBitReg .b4 .b s)
/-- `BIT 4,C` (R291). -/
def execBit4C (s : State) : Result := .next (bitBitReg .b4 .c s)
/-- `BIT 4,D` (R291). -/
def execBit4D (s : State) : Result := .next (bitBitReg .b4 .d s)
/-- `BIT 4,E` (R291). -/
def execBit4E (s : State) : Result := .next (bitBitReg .b4 .e s)
/-- `BIT 4,H` (R291). -/
def execBit4H (s : State) : Result := .next (bitBitReg .b4 .h s)
/-- `BIT 4,L` (R291). -/
def execBit4L (s : State) : Result := .next (bitBitReg .b4 .l s)
/-- `BIT 4,(HL)` (R292). -/
def execBit4IndHL (s : State) : Result := .next (bitBitMem .b4 s)
/-- `BIT 4,A` (R291). -/
def execBit4A (s : State) : Result := .next (bitBitReg .b4 .a s)
/-- `BIT 5,B` (R291). -/
def execBit5B (s : State) : Result := .next (bitBitReg .b5 .b s)
/-- `BIT 5,C` (R291). -/
def execBit5C (s : State) : Result := .next (bitBitReg .b5 .c s)
/-- `BIT 5,D` (R291). -/
def execBit5D (s : State) : Result := .next (bitBitReg .b5 .d s)
/-- `BIT 5,E` (R291). -/
def execBit5E (s : State) : Result := .next (bitBitReg .b5 .e s)
/-- `BIT 5,H` (R291). -/
def execBit5H (s : State) : Result := .next (bitBitReg .b5 .h s)
/-- `BIT 5,L` (R291). -/
def execBit5L (s : State) : Result := .next (bitBitReg .b5 .l s)
/-- `BIT 5,(HL)` (R292). -/
def execBit5IndHL (s : State) : Result := .next (bitBitMem .b5 s)
/-- `BIT 5,A` (R291). -/
def execBit5A (s : State) : Result := .next (bitBitReg .b5 .a s)
/-- `BIT 6,B` (R291). -/
def execBit6B (s : State) : Result := .next (bitBitReg .b6 .b s)
/-- `BIT 6,C` (R291). -/
def execBit6C (s : State) : Result := .next (bitBitReg .b6 .c s)
/-- `BIT 6,D` (R291). -/
def execBit6D (s : State) : Result := .next (bitBitReg .b6 .d s)
/-- `BIT 6,E` (R291). -/
def execBit6E (s : State) : Result := .next (bitBitReg .b6 .e s)
/-- `BIT 6,H` (R291). -/
def execBit6H (s : State) : Result := .next (bitBitReg .b6 .h s)
/-- `BIT 6,L` (R291). -/
def execBit6L (s : State) : Result := .next (bitBitReg .b6 .l s)
/-- `BIT 6,(HL)` (R292). -/
def execBit6IndHL (s : State) : Result := .next (bitBitMem .b6 s)
/-- `BIT 6,A` (R291). -/
def execBit6A (s : State) : Result := .next (bitBitReg .b6 .a s)
/-- `BIT 7,B` (R291). -/
def execBit7B (s : State) : Result := .next (bitBitReg .b7 .b s)
/-- `BIT 7,C` (R291). -/
def execBit7C (s : State) : Result := .next (bitBitReg .b7 .c s)
/-- `BIT 7,D` (R291). -/
def execBit7D (s : State) : Result := .next (bitBitReg .b7 .d s)
/-- `BIT 7,E` (R291). -/
def execBit7E (s : State) : Result := .next (bitBitReg .b7 .e s)
/-- `BIT 7,H` (R291). -/
def execBit7H (s : State) : Result := .next (bitBitReg .b7 .h s)
/-- `BIT 7,L` (R291). -/
def execBit7L (s : State) : Result := .next (bitBitReg .b7 .l s)
/-- `BIT 7,(HL)` (R292). -/
def execBit7IndHL (s : State) : Result := .next (bitBitMem .b7 s)
/-- `BIT 7,A` (R291). -/
def execBit7A (s : State) : Result := .next (bitBitReg .b7 .a s)
/-- `RES 0,B` (R293). -/
def execRes0B (s : State) : Result := .next (resBitReg .b0 .b s)
/-- `RES 0,C` (R293). -/
def execRes0C (s : State) : Result := .next (resBitReg .b0 .c s)
/-- `RES 0,D` (R293). -/
def execRes0D (s : State) : Result := .next (resBitReg .b0 .d s)
/-- `RES 0,E` (R293). -/
def execRes0E (s : State) : Result := .next (resBitReg .b0 .e s)
/-- `RES 0,H` (R293). -/
def execRes0H (s : State) : Result := .next (resBitReg .b0 .h s)
/-- `RES 0,L` (R293). -/
def execRes0L (s : State) : Result := .next (resBitReg .b0 .l s)
/-- `RES 0,(HL)` (R294). -/
def execRes0IndHL (s : State) : Result := .next (resBitMem .b0 s)
/-- `RES 0,A` (R293). -/
def execRes0A (s : State) : Result := .next (resBitReg .b0 .a s)
/-- `RES 1,B` (R293). -/
def execRes1B (s : State) : Result := .next (resBitReg .b1 .b s)
/-- `RES 1,C` (R293). -/
def execRes1C (s : State) : Result := .next (resBitReg .b1 .c s)
/-- `RES 1,D` (R293). -/
def execRes1D (s : State) : Result := .next (resBitReg .b1 .d s)
/-- `RES 1,E` (R293). -/
def execRes1E (s : State) : Result := .next (resBitReg .b1 .e s)
/-- `RES 1,H` (R293). -/
def execRes1H (s : State) : Result := .next (resBitReg .b1 .h s)
/-- `RES 1,L` (R293). -/
def execRes1L (s : State) : Result := .next (resBitReg .b1 .l s)
/-- `RES 1,(HL)` (R294). -/
def execRes1IndHL (s : State) : Result := .next (resBitMem .b1 s)
/-- `RES 1,A` (R293). -/
def execRes1A (s : State) : Result := .next (resBitReg .b1 .a s)
/-- `RES 2,B` (R293). -/
def execRes2B (s : State) : Result := .next (resBitReg .b2 .b s)
/-- `RES 2,C` (R293). -/
def execRes2C (s : State) : Result := .next (resBitReg .b2 .c s)
/-- `RES 2,D` (R293). -/
def execRes2D (s : State) : Result := .next (resBitReg .b2 .d s)
/-- `RES 2,E` (R293). -/
def execRes2E (s : State) : Result := .next (resBitReg .b2 .e s)
/-- `RES 2,H` (R293). -/
def execRes2H (s : State) : Result := .next (resBitReg .b2 .h s)
/-- `RES 2,L` (R293). -/
def execRes2L (s : State) : Result := .next (resBitReg .b2 .l s)
/-- `RES 2,(HL)` (R294). -/
def execRes2IndHL (s : State) : Result := .next (resBitMem .b2 s)
/-- `RES 2,A` (R293). -/
def execRes2A (s : State) : Result := .next (resBitReg .b2 .a s)
/-- `RES 3,B` (R293). -/
def execRes3B (s : State) : Result := .next (resBitReg .b3 .b s)
/-- `RES 3,C` (R293). -/
def execRes3C (s : State) : Result := .next (resBitReg .b3 .c s)
/-- `RES 3,D` (R293). -/
def execRes3D (s : State) : Result := .next (resBitReg .b3 .d s)
/-- `RES 3,E` (R293). -/
def execRes3E (s : State) : Result := .next (resBitReg .b3 .e s)
/-- `RES 3,H` (R293). -/
def execRes3H (s : State) : Result := .next (resBitReg .b3 .h s)
/-- `RES 3,L` (R293). -/
def execRes3L (s : State) : Result := .next (resBitReg .b3 .l s)
/-- `RES 3,(HL)` (R294). -/
def execRes3IndHL (s : State) : Result := .next (resBitMem .b3 s)
/-- `RES 3,A` (R293). -/
def execRes3A (s : State) : Result := .next (resBitReg .b3 .a s)
/-- `RES 4,B` (R293). -/
def execRes4B (s : State) : Result := .next (resBitReg .b4 .b s)
/-- `RES 4,C` (R293). -/
def execRes4C (s : State) : Result := .next (resBitReg .b4 .c s)
/-- `RES 4,D` (R293). -/
def execRes4D (s : State) : Result := .next (resBitReg .b4 .d s)
/-- `RES 4,E` (R293). -/
def execRes4E (s : State) : Result := .next (resBitReg .b4 .e s)
/-- `RES 4,H` (R293). -/
def execRes4H (s : State) : Result := .next (resBitReg .b4 .h s)
/-- `RES 4,L` (R293). -/
def execRes4L (s : State) : Result := .next (resBitReg .b4 .l s)
/-- `RES 4,(HL)` (R294). -/
def execRes4IndHL (s : State) : Result := .next (resBitMem .b4 s)
/-- `RES 4,A` (R293). -/
def execRes4A (s : State) : Result := .next (resBitReg .b4 .a s)
/-- `RES 5,B` (R293). -/
def execRes5B (s : State) : Result := .next (resBitReg .b5 .b s)
/-- `RES 5,C` (R293). -/
def execRes5C (s : State) : Result := .next (resBitReg .b5 .c s)
/-- `RES 5,D` (R293). -/
def execRes5D (s : State) : Result := .next (resBitReg .b5 .d s)
/-- `RES 5,E` (R293). -/
def execRes5E (s : State) : Result := .next (resBitReg .b5 .e s)
/-- `RES 5,H` (R293). -/
def execRes5H (s : State) : Result := .next (resBitReg .b5 .h s)
/-- `RES 5,L` (R293). -/
def execRes5L (s : State) : Result := .next (resBitReg .b5 .l s)
/-- `RES 5,(HL)` (R294). -/
def execRes5IndHL (s : State) : Result := .next (resBitMem .b5 s)
/-- `RES 5,A` (R293). -/
def execRes5A (s : State) : Result := .next (resBitReg .b5 .a s)
/-- `RES 6,B` (R293). -/
def execRes6B (s : State) : Result := .next (resBitReg .b6 .b s)
/-- `RES 6,C` (R293). -/
def execRes6C (s : State) : Result := .next (resBitReg .b6 .c s)
/-- `RES 6,D` (R293). -/
def execRes6D (s : State) : Result := .next (resBitReg .b6 .d s)
/-- `RES 6,E` (R293). -/
def execRes6E (s : State) : Result := .next (resBitReg .b6 .e s)
/-- `RES 6,H` (R293). -/
def execRes6H (s : State) : Result := .next (resBitReg .b6 .h s)
/-- `RES 6,L` (R293). -/
def execRes6L (s : State) : Result := .next (resBitReg .b6 .l s)
/-- `RES 6,(HL)` (R294). -/
def execRes6IndHL (s : State) : Result := .next (resBitMem .b6 s)
/-- `RES 6,A` (R293). -/
def execRes6A (s : State) : Result := .next (resBitReg .b6 .a s)
/-- `RES 7,B` (R293). -/
def execRes7B (s : State) : Result := .next (resBitReg .b7 .b s)
/-- `RES 7,C` (R293). -/
def execRes7C (s : State) : Result := .next (resBitReg .b7 .c s)
/-- `RES 7,D` (R293). -/
def execRes7D (s : State) : Result := .next (resBitReg .b7 .d s)
/-- `RES 7,E` (R293). -/
def execRes7E (s : State) : Result := .next (resBitReg .b7 .e s)
/-- `RES 7,H` (R293). -/
def execRes7H (s : State) : Result := .next (resBitReg .b7 .h s)
/-- `RES 7,L` (R293). -/
def execRes7L (s : State) : Result := .next (resBitReg .b7 .l s)
/-- `RES 7,(HL)` (R294). -/
def execRes7IndHL (s : State) : Result := .next (resBitMem .b7 s)
/-- `RES 7,A` (R293). -/
def execRes7A (s : State) : Result := .next (resBitReg .b7 .a s)
/-- `SET 0,B` (R295). -/
def execSet0B (s : State) : Result := .next (setBitReg .b0 .b s)
/-- `SET 0,C` (R295). -/
def execSet0C (s : State) : Result := .next (setBitReg .b0 .c s)
/-- `SET 0,D` (R295). -/
def execSet0D (s : State) : Result := .next (setBitReg .b0 .d s)
/-- `SET 0,E` (R295). -/
def execSet0E (s : State) : Result := .next (setBitReg .b0 .e s)
/-- `SET 0,H` (R295). -/
def execSet0H (s : State) : Result := .next (setBitReg .b0 .h s)
/-- `SET 0,L` (R295). -/
def execSet0L (s : State) : Result := .next (setBitReg .b0 .l s)
/-- `SET 0,(HL)` (R296). -/
def execSet0IndHL (s : State) : Result := .next (setBitMem .b0 s)
/-- `SET 0,A` (R295). -/
def execSet0A (s : State) : Result := .next (setBitReg .b0 .a s)
/-- `SET 1,B` (R295). -/
def execSet1B (s : State) : Result := .next (setBitReg .b1 .b s)
/-- `SET 1,C` (R295). -/
def execSet1C (s : State) : Result := .next (setBitReg .b1 .c s)
/-- `SET 1,D` (R295). -/
def execSet1D (s : State) : Result := .next (setBitReg .b1 .d s)
/-- `SET 1,E` (R295). -/
def execSet1E (s : State) : Result := .next (setBitReg .b1 .e s)
/-- `SET 1,H` (R295). -/
def execSet1H (s : State) : Result := .next (setBitReg .b1 .h s)
/-- `SET 1,L` (R295). -/
def execSet1L (s : State) : Result := .next (setBitReg .b1 .l s)
/-- `SET 1,(HL)` (R296). -/
def execSet1IndHL (s : State) : Result := .next (setBitMem .b1 s)
/-- `SET 1,A` (R295). -/
def execSet1A (s : State) : Result := .next (setBitReg .b1 .a s)
/-- `SET 2,B` (R295). -/
def execSet2B (s : State) : Result := .next (setBitReg .b2 .b s)
/-- `SET 2,C` (R295). -/
def execSet2C (s : State) : Result := .next (setBitReg .b2 .c s)
/-- `SET 2,D` (R295). -/
def execSet2D (s : State) : Result := .next (setBitReg .b2 .d s)
/-- `SET 2,E` (R295). -/
def execSet2E (s : State) : Result := .next (setBitReg .b2 .e s)
/-- `SET 2,H` (R295). -/
def execSet2H (s : State) : Result := .next (setBitReg .b2 .h s)
/-- `SET 2,L` (R295). -/
def execSet2L (s : State) : Result := .next (setBitReg .b2 .l s)
/-- `SET 2,(HL)` (R296). -/
def execSet2IndHL (s : State) : Result := .next (setBitMem .b2 s)
/-- `SET 2,A` (R295). -/
def execSet2A (s : State) : Result := .next (setBitReg .b2 .a s)
/-- `SET 3,B` (R295). -/
def execSet3B (s : State) : Result := .next (setBitReg .b3 .b s)
/-- `SET 3,C` (R295). -/
def execSet3C (s : State) : Result := .next (setBitReg .b3 .c s)
/-- `SET 3,D` (R295). -/
def execSet3D (s : State) : Result := .next (setBitReg .b3 .d s)
/-- `SET 3,E` (R295). -/
def execSet3E (s : State) : Result := .next (setBitReg .b3 .e s)
/-- `SET 3,H` (R295). -/
def execSet3H (s : State) : Result := .next (setBitReg .b3 .h s)
/-- `SET 3,L` (R295). -/
def execSet3L (s : State) : Result := .next (setBitReg .b3 .l s)
/-- `SET 3,(HL)` (R296). -/
def execSet3IndHL (s : State) : Result := .next (setBitMem .b3 s)
/-- `SET 3,A` (R295). -/
def execSet3A (s : State) : Result := .next (setBitReg .b3 .a s)
/-- `SET 4,B` (R295). -/
def execSet4B (s : State) : Result := .next (setBitReg .b4 .b s)
/-- `SET 4,C` (R295). -/
def execSet4C (s : State) : Result := .next (setBitReg .b4 .c s)
/-- `SET 4,D` (R295). -/
def execSet4D (s : State) : Result := .next (setBitReg .b4 .d s)
/-- `SET 4,E` (R295). -/
def execSet4E (s : State) : Result := .next (setBitReg .b4 .e s)
/-- `SET 4,H` (R295). -/
def execSet4H (s : State) : Result := .next (setBitReg .b4 .h s)
/-- `SET 4,L` (R295). -/
def execSet4L (s : State) : Result := .next (setBitReg .b4 .l s)
/-- `SET 4,(HL)` (R296). -/
def execSet4IndHL (s : State) : Result := .next (setBitMem .b4 s)
/-- `SET 4,A` (R295). -/
def execSet4A (s : State) : Result := .next (setBitReg .b4 .a s)
/-- `SET 5,B` (R295). -/
def execSet5B (s : State) : Result := .next (setBitReg .b5 .b s)
/-- `SET 5,C` (R295). -/
def execSet5C (s : State) : Result := .next (setBitReg .b5 .c s)
/-- `SET 5,D` (R295). -/
def execSet5D (s : State) : Result := .next (setBitReg .b5 .d s)
/-- `SET 5,E` (R295). -/
def execSet5E (s : State) : Result := .next (setBitReg .b5 .e s)
/-- `SET 5,H` (R295). -/
def execSet5H (s : State) : Result := .next (setBitReg .b5 .h s)
/-- `SET 5,L` (R295). -/
def execSet5L (s : State) : Result := .next (setBitReg .b5 .l s)
/-- `SET 5,(HL)` (R296). -/
def execSet5IndHL (s : State) : Result := .next (setBitMem .b5 s)
/-- `SET 5,A` (R295). -/
def execSet5A (s : State) : Result := .next (setBitReg .b5 .a s)
/-- `SET 6,B` (R295). -/
def execSet6B (s : State) : Result := .next (setBitReg .b6 .b s)
/-- `SET 6,C` (R295). -/
def execSet6C (s : State) : Result := .next (setBitReg .b6 .c s)
/-- `SET 6,D` (R295). -/
def execSet6D (s : State) : Result := .next (setBitReg .b6 .d s)
/-- `SET 6,E` (R295). -/
def execSet6E (s : State) : Result := .next (setBitReg .b6 .e s)
/-- `SET 6,H` (R295). -/
def execSet6H (s : State) : Result := .next (setBitReg .b6 .h s)
/-- `SET 6,L` (R295). -/
def execSet6L (s : State) : Result := .next (setBitReg .b6 .l s)
/-- `SET 6,(HL)` (R296). -/
def execSet6IndHL (s : State) : Result := .next (setBitMem .b6 s)
/-- `SET 6,A` (R295). -/
def execSet6A (s : State) : Result := .next (setBitReg .b6 .a s)
/-- `SET 7,B` (R295). -/
def execSet7B (s : State) : Result := .next (setBitReg .b7 .b s)
/-- `SET 7,C` (R295). -/
def execSet7C (s : State) : Result := .next (setBitReg .b7 .c s)
/-- `SET 7,D` (R295). -/
def execSet7D (s : State) : Result := .next (setBitReg .b7 .d s)
/-- `SET 7,E` (R295). -/
def execSet7E (s : State) : Result := .next (setBitReg .b7 .e s)
/-- `SET 7,H` (R295). -/
def execSet7H (s : State) : Result := .next (setBitReg .b7 .h s)
/-- `SET 7,L` (R295). -/
def execSet7L (s : State) : Result := .next (setBitReg .b7 .l s)
/-- `SET 7,(HL)` (R296). -/
def execSet7IndHL (s : State) : Result := .next (setBitMem .b7 s)
/-- `SET 7,A` (R295). -/
def execSet7A (s : State) : Result := .next (setBitReg .b7 .a s)

end Sys2Proof.Machine
end

