-- ==== Sys2Proof/Machine/Control.lean ====
section
/-! DEFINITION. Jumps, calls, returns and restarts (45_control.md R310 to R321); PC is already past the instruction. The shared operations come first, then one meaning for each instruction. -/

namespace Sys2Proof.Machine

/-- `PC <- nn` (R311). -/
def jumpAbs (nn : Word) (s : State) : State := s.setPc nn
/-- `if cond(cc) then PC <- nn` (R312). -/
def jumpAbsIf (cc : Cond) (nn : Word) (s : State) : State := if condHolds cc s then jumpAbs nn s else s
/-- `PC <- HL` (R313). -/
def jumpHL (s : State) : State := s.setPc (s.pair .hl)
/-- `PC <- PC + sext_8(e)` (R314). -/
def jumpRel (e : Byte) (s : State) : State := s.setPc (s.cpu.pc + displacement e)
/-- The conditional relative jump (R315). -/
def jumpRelIf (cc : Cond) (e : Byte) (s : State) : State := if condHolds cc s then jumpRel e s else s
/-- `Push16(PC); PC <- nn` (R316, R321). -/
def doCall (nn : Word) (s : State) : State := (push16 s.cpu.pc s).setPc nn
/-- The conditional call (R317). -/
def callIf (cc : Cond) (nn : Word) (s : State) : State := if condHolds cc s then doCall nn s else s
/-- `PC <- Pop16()` (R318). -/
def doReturn (s : State) : State := (afterPop s).setPc (popValue s)
/-- The conditional return; not taken it reads no memory (R319). -/
def returnIf (cc : Cond) (s : State) : State := if condHolds cc s then doReturn s else s
/-- `RST t`: a call to a fixed low address (R321). -/
def restart (t : RstVec) (s : State) : State := doCall t.target s

/-- `JR e` (R314). -/
def execJr (e : Byte) (s : State) : Result := .next (jumpRel e s)
/-- `JR NZ,e` (R315). -/
def execJrNZ (e : Byte) (s : State) : Result := .next (jumpRelIf .nz e s)
/-- `JR Z,e` (R315). -/
def execJrZ (e : Byte) (s : State) : Result := .next (jumpRelIf .z e s)
/-- `JR NC,e` (R315). -/
def execJrNC (e : Byte) (s : State) : Result := .next (jumpRelIf .nc e s)
/-- `JR C,e` (R315). -/
def execJrC (e : Byte) (s : State) : Result := .next (jumpRelIf .c e s)
/-- `RET NZ` (R319). -/
def execRetNZ (s : State) : Result := .next (returnIf .nz s)
/-- `JP NZ,nn` (R312). -/
def execJpNZ (nn : Word) (s : State) : Result := .next (jumpAbsIf .nz nn s)
/-- `JP nn` (R311). -/
def execJp (nn : Word) (s : State) : Result := .next (jumpAbs nn s)
/-- `CALL NZ,nn` (R317). -/
def execCallNZ (nn : Word) (s : State) : Result := .next (callIf .nz nn s)
/-- `RST 0x00` (R321). -/
def execRst00 (s : State) : Result := .next (restart .t00 s)
/-- `RET Z` (R319). -/
def execRetZ (s : State) : Result := .next (returnIf .z s)
/-- `RET` (R318). -/
def execRet (s : State) : Result := .next (doReturn s)
/-- `JP Z,nn` (R312). -/
def execJpZ (nn : Word) (s : State) : Result := .next (jumpAbsIf .z nn s)
/-- `CALL Z,nn` (R317). -/
def execCallZ (nn : Word) (s : State) : Result := .next (callIf .z nn s)
/-- `CALL nn` (R316). -/
def execCall (nn : Word) (s : State) : Result := .next (doCall nn s)
/-- `RST 0x08` (R321). -/
def execRst08 (s : State) : Result := .next (restart .t08 s)
/-- `RET NC` (R319). -/
def execRetNC (s : State) : Result := .next (returnIf .nc s)
/-- `JP NC,nn` (R312). -/
def execJpNC (nn : Word) (s : State) : Result := .next (jumpAbsIf .nc nn s)
/-- `CALL NC,nn` (R317). -/
def execCallNC (nn : Word) (s : State) : Result := .next (callIf .nc nn s)
/-- `RST 0x10` (R321). -/
def execRst10 (s : State) : Result := .next (restart .t10 s)
/-- `RET C` (R319). -/
def execRetC (s : State) : Result := .next (returnIf .c s)
/-- `RETI` (R320). -/
def execReti (s : State) : Result := .next (returnFromInterrupt s)
/-- `JP C,nn` (R312). -/
def execJpC (nn : Word) (s : State) : Result := .next (jumpAbsIf .c nn s)
/-- `CALL C,nn` (R317). -/
def execCallC (nn : Word) (s : State) : Result := .next (callIf .c nn s)
/-- `RST 0x18` (R321). -/
def execRst18 (s : State) : Result := .next (restart .t18 s)
/-- `RST 0x20` (R321). -/
def execRst20 (s : State) : Result := .next (restart .t20 s)
/-- `JP HL` (R313). -/
def execJpHL (s : State) : Result := .next (jumpHL s)
/-- `RST 0x28` (R321). -/
def execRst28 (s : State) : Result := .next (restart .t28 s)
/-- `RST 0x30` (R321). -/
def execRst30 (s : State) : Result := .next (restart .t30 s)
/-- `RST 0x38` (R321). -/
def execRst38 (s : State) : Result := .next (restart .t38 s)

end Sys2Proof.Machine
end

