-- ==== Sys2Proof/Machine/Load16.lean ====
section
/-! DEFINITION. The 16-bit loads and the stack (41_load16.md R200 to R207). The shared operations come first, then one meaning for each instruction. -/

namespace Sys2Proof.Machine

/-- `r16[p] <- nn` (R201). -/
def loadPairImm (p : R16) (nn : Word) (s : State) : State := s.setPair p nn
/-- The low byte of SP to `nn`, then the high byte to `nn + 1` (R202). -/
def storeSp (nn : Word) (s : State) : State :=
  memWrite (nn + 1) (hiByte s.cpu.sp) (memWrite nn (loByte s.cpu.sp) s)
/-- `SP <- HL` (R203). -/
def loadSpHL (s : State) : State := s.setSp (s.pair .hl)
/-- `HL <- SP + sext_8(e)` with its flags (R204). -/
def loadHLSp (e : Byte) (s : State) : State :=
  (s.setPair .hl (spPlus s.cpu.sp e).1).setF (spPlus s.cpu.sp e).2
/-- `Push16(r16stk[p])` (R205). -/
def pushPair (p : R16Stk) (s : State) : State := push16 (s.stkPair p) s
/-- `r16stk[p] <- Pop16()` (R206). -/
def popPair (p : R16Stk) (s : State) : State := (afterPop s).setStkPair p (popValue s)
/-- `POP AF`: the popped low byte's low nibble is discarded (R207). -/
def popAf (s : State) : State := popPair .af s

/-- `LD BC,nn` (R201). -/
def execLdBCnn (nn : Word) (s : State) : Result := .next (loadPairImm .bc nn s)
/-- `LD (nn),SP` (R202). -/
def execLdIndNnSP (nn : Word) (s : State) : Result := .next (storeSp nn s)
/-- `LD DE,nn` (R201). -/
def execLdDEnn (nn : Word) (s : State) : Result := .next (loadPairImm .de nn s)
/-- `LD HL,nn` (R201). -/
def execLdHLnn (nn : Word) (s : State) : Result := .next (loadPairImm .hl nn s)
/-- `LD SP,nn` (R201). -/
def execLdSPnn (nn : Word) (s : State) : Result := .next (loadPairImm .sp nn s)
/-- `POP BC` (R206). -/
def execPopBC (s : State) : Result := .next (popPair .bc s)
/-- `PUSH BC` (R205). -/
def execPushBC (s : State) : Result := .next (pushPair .bc s)
/-- `POP DE` (R206). -/
def execPopDE (s : State) : Result := .next (popPair .de s)
/-- `PUSH DE` (R205). -/
def execPushDE (s : State) : Result := .next (pushPair .de s)
/-- `POP HL` (R206). -/
def execPopHL (s : State) : Result := .next (popPair .hl s)
/-- `PUSH HL` (R205). -/
def execPushHL (s : State) : Result := .next (pushPair .hl s)
/-- `POP AF` (R207). -/
def execPopAF (s : State) : Result := .next (popAf s)
/-- `PUSH AF` (R205). -/
def execPushAF (s : State) : Result := .next (pushPair .af s)
/-- `LD HL,SP+e` (R204). -/
def execLdHLSPe (e : Byte) (s : State) : Result := .next (loadHLSp e s)
/-- `LD SP,HL` (R203). -/
def execLdSPHL (s : State) : Result := .next (loadSpHL s)

end Sys2Proof.Machine
end

