-- ==== Sys2Proof/Machine/Load8.lean ====
section
/-! DEFINITION. The 8-bit loads (40_load8.md R170 to R189): no flag changes, one byte moves. The shared operations come first, then one meaning for each instruction. -/

namespace Sys2Proof.Machine

/-- `r8[d] <- r8[s]` (R171). -/
def loadReg (dst src : R8) (s : State) : State := s.setReg dst (s.reg src)
/-- `r8[d] <- n` (R172). -/
def loadImm (dst : R8) (n : Byte) (s : State) : State := s.setReg dst n
/-- `r8[d] <- MemRead(HL,1)`, with the old HL as the address (R173). -/
def loadMem (dst : R8) (s : State) : State := s.setReg dst (readHL s)
/-- `MemWrite(HL,1,r8[s])` (R174). -/
def storeReg (src : R8) (s : State) : State := writeHL (s.reg src) s
/-- `MemWrite(HL,1,n)` (R175). -/
def storeImm (n : Byte) (s : State) : State := writeHL n s
/-- `A <- MemRead(addr,1)` (R176, R177, R180, R182, R184). -/
def loadA (addr : Word) (s : State) : State := s.setReg .a (memRead .data1 addr s)
/-- `MemWrite(addr,1,A)` (R178, R179, R181, R183, R185). -/
def storeA (addr : Word) (s : State) : State := memWrite addr s.cpu.a s
/-- `A <- MemRead(HL,1); HL <- HL + 1` (R186). -/
def loadAInc (s : State) : State := (loadA (hlAddr s) s).setPair .hl (hlAddr s + 1)
/-- `A <- MemRead(HL,1); HL <- HL - 1` (R187). -/
def loadADec (s : State) : State := (loadA (hlAddr s) s).setPair .hl (hlAddr s - 1)
/-- `MemWrite(HL,1,A); HL <- HL + 1` (R188). -/
def storeAInc (s : State) : State := (storeA (hlAddr s) s).setPair .hl (hlAddr s + 1)
/-- `MemWrite(HL,1,A); HL <- HL - 1` (R189). -/
def storeADec (s : State) : State := (storeA (hlAddr s) s).setPair .hl (hlAddr s - 1)

/-- `LD (BC),A` (R178). -/
def execLdIndBCA (s : State) : Result := .next (storeA (s.pair .bc) s)
/-- `LD B,n` (R172). -/
def execLdBn (n : Byte) (s : State) : Result := .next (loadImm .b n s)
/-- `LD A,(BC)` (R176). -/
def execLdAIndBC (s : State) : Result := .next (loadA (s.pair .bc) s)
/-- `LD C,n` (R172). -/
def execLdCn (n : Byte) (s : State) : Result := .next (loadImm .c n s)
/-- `LD (DE),A` (R179). -/
def execLdIndDEA (s : State) : Result := .next (storeA (s.pair .de) s)
/-- `LD D,n` (R172). -/
def execLdDn (n : Byte) (s : State) : Result := .next (loadImm .d n s)
/-- `LD A,(DE)` (R177). -/
def execLdAIndDE (s : State) : Result := .next (loadA (s.pair .de) s)
/-- `LD E,n` (R172). -/
def execLdEn (n : Byte) (s : State) : Result := .next (loadImm .e n s)
/-- `LD (HL+),A` (R188). -/
def execLdIndHLIncA (s : State) : Result := .next (storeAInc s)
/-- `LD H,n` (R172). -/
def execLdHn (n : Byte) (s : State) : Result := .next (loadImm .h n s)
/-- `LD A,(HL+)` (R186). -/
def execLdAIndHLInc (s : State) : Result := .next (loadAInc s)
/-- `LD L,n` (R172). -/
def execLdLn (n : Byte) (s : State) : Result := .next (loadImm .l n s)
/-- `LD (HL-),A` (R189). -/
def execLdIndHLDecA (s : State) : Result := .next (storeADec s)
/-- `LD (HL),n` (R175). -/
def execLdIndHLn (n : Byte) (s : State) : Result := .next (storeImm n s)
/-- `LD A,(HL-)` (R187). -/
def execLdAIndHLDec (s : State) : Result := .next (loadADec s)
/-- `LD A,n` (R172). -/
def execLdAn (n : Byte) (s : State) : Result := .next (loadImm .a n s)
/-- `LD B,B` (R171). -/
def execLdBB (s : State) : Result := .next (loadReg .b .b s)
/-- `LD B,C` (R171). -/
def execLdBC (s : State) : Result := .next (loadReg .b .c s)
/-- `LD B,D` (R171). -/
def execLdBD (s : State) : Result := .next (loadReg .b .d s)
/-- `LD B,E` (R171). -/
def execLdBE (s : State) : Result := .next (loadReg .b .e s)
/-- `LD B,H` (R171). -/
def execLdBH (s : State) : Result := .next (loadReg .b .h s)
/-- `LD B,L` (R171). -/
def execLdBL (s : State) : Result := .next (loadReg .b .l s)
/-- `LD B,(HL)` (R173). -/
def execLdBIndHL (s : State) : Result := .next (loadMem .b s)
/-- `LD B,A` (R171). -/
def execLdBA (s : State) : Result := .next (loadReg .b .a s)
/-- `LD C,B` (R171). -/
def execLdCB (s : State) : Result := .next (loadReg .c .b s)
/-- `LD C,C` (R171). -/
def execLdCC (s : State) : Result := .next (loadReg .c .c s)
/-- `LD C,D` (R171). -/
def execLdCD (s : State) : Result := .next (loadReg .c .d s)
/-- `LD C,E` (R171). -/
def execLdCE (s : State) : Result := .next (loadReg .c .e s)
/-- `LD C,H` (R171). -/
def execLdCH (s : State) : Result := .next (loadReg .c .h s)
/-- `LD C,L` (R171). -/
def execLdCL (s : State) : Result := .next (loadReg .c .l s)
/-- `LD C,(HL)` (R173). -/
def execLdCIndHL (s : State) : Result := .next (loadMem .c s)
/-- `LD C,A` (R171). -/
def execLdCA (s : State) : Result := .next (loadReg .c .a s)
/-- `LD D,B` (R171). -/
def execLdDB (s : State) : Result := .next (loadReg .d .b s)
/-- `LD D,C` (R171). -/
def execLdDC (s : State) : Result := .next (loadReg .d .c s)
/-- `LD D,D` (R171). -/
def execLdDD (s : State) : Result := .next (loadReg .d .d s)
/-- `LD D,E` (R171). -/
def execLdDE (s : State) : Result := .next (loadReg .d .e s)
/-- `LD D,H` (R171). -/
def execLdDH (s : State) : Result := .next (loadReg .d .h s)
/-- `LD D,L` (R171). -/
def execLdDL (s : State) : Result := .next (loadReg .d .l s)
/-- `LD D,(HL)` (R173). -/
def execLdDIndHL (s : State) : Result := .next (loadMem .d s)
/-- `LD D,A` (R171). -/
def execLdDA (s : State) : Result := .next (loadReg .d .a s)
/-- `LD E,B` (R171). -/
def execLdEB (s : State) : Result := .next (loadReg .e .b s)
/-- `LD E,C` (R171). -/
def execLdEC (s : State) : Result := .next (loadReg .e .c s)
/-- `LD E,D` (R171). -/
def execLdED (s : State) : Result := .next (loadReg .e .d s)
/-- `LD E,E` (R171). -/
def execLdEE (s : State) : Result := .next (loadReg .e .e s)
/-- `LD E,H` (R171). -/
def execLdEH (s : State) : Result := .next (loadReg .e .h s)
/-- `LD E,L` (R171). -/
def execLdEL (s : State) : Result := .next (loadReg .e .l s)
/-- `LD E,(HL)` (R173). -/
def execLdEIndHL (s : State) : Result := .next (loadMem .e s)
/-- `LD E,A` (R171). -/
def execLdEA (s : State) : Result := .next (loadReg .e .a s)
/-- `LD H,B` (R171). -/
def execLdHB (s : State) : Result := .next (loadReg .h .b s)
/-- `LD H,C` (R171). -/
def execLdHC (s : State) : Result := .next (loadReg .h .c s)
/-- `LD H,D` (R171). -/
def execLdHD (s : State) : Result := .next (loadReg .h .d s)
/-- `LD H,E` (R171). -/
def execLdHE (s : State) : Result := .next (loadReg .h .e s)
/-- `LD H,H` (R171). -/
def execLdHH (s : State) : Result := .next (loadReg .h .h s)
/-- `LD H,L` (R171). -/
def execLdHL (s : State) : Result := .next (loadReg .h .l s)
/-- `LD H,(HL)` (R173). -/
def execLdHIndHL (s : State) : Result := .next (loadMem .h s)
/-- `LD H,A` (R171). -/
def execLdHA (s : State) : Result := .next (loadReg .h .a s)
/-- `LD L,B` (R171). -/
def execLdLB (s : State) : Result := .next (loadReg .l .b s)
/-- `LD L,C` (R171). -/
def execLdLC (s : State) : Result := .next (loadReg .l .c s)
/-- `LD L,D` (R171). -/
def execLdLD (s : State) : Result := .next (loadReg .l .d s)
/-- `LD L,E` (R171). -/
def execLdLE (s : State) : Result := .next (loadReg .l .e s)
/-- `LD L,H` (R171). -/
def execLdLH (s : State) : Result := .next (loadReg .l .h s)
/-- `LD L,L` (R171). -/
def execLdLL (s : State) : Result := .next (loadReg .l .l s)
/-- `LD L,(HL)` (R173). -/
def execLdLIndHL (s : State) : Result := .next (loadMem .l s)
/-- `LD L,A` (R171). -/
def execLdLA (s : State) : Result := .next (loadReg .l .a s)
/-- `LD (HL),B` (R174). -/
def execLdIndHLB (s : State) : Result := .next (storeReg .b s)
/-- `LD (HL),C` (R174). -/
def execLdIndHLC (s : State) : Result := .next (storeReg .c s)
/-- `LD (HL),D` (R174). -/
def execLdIndHLD (s : State) : Result := .next (storeReg .d s)
/-- `LD (HL),E` (R174). -/
def execLdIndHLE (s : State) : Result := .next (storeReg .e s)
/-- `LD (HL),H` (R174). -/
def execLdIndHLH (s : State) : Result := .next (storeReg .h s)
/-- `LD (HL),L` (R174). -/
def execLdIndHLL (s : State) : Result := .next (storeReg .l s)
/-- `LD (HL),A` (R174). -/
def execLdIndHLA (s : State) : Result := .next (storeReg .a s)
/-- `LD A,B` (R171). -/
def execLdAB (s : State) : Result := .next (loadReg .a .b s)
/-- `LD A,C` (R171). -/
def execLdAC (s : State) : Result := .next (loadReg .a .c s)
/-- `LD A,D` (R171). -/
def execLdAD (s : State) : Result := .next (loadReg .a .d s)
/-- `LD A,E` (R171). -/
def execLdAE (s : State) : Result := .next (loadReg .a .e s)
/-- `LD A,H` (R171). -/
def execLdAH (s : State) : Result := .next (loadReg .a .h s)
/-- `LD A,L` (R171). -/
def execLdAL (s : State) : Result := .next (loadReg .a .l s)
/-- `LD A,(HL)` (R173). -/
def execLdAIndHL (s : State) : Result := .next (loadMem .a s)
/-- `LD A,A` (R171). -/
def execLdAA (s : State) : Result := .next (loadReg .a .a s)
/-- `LDH (n),A` (R185). -/
def execLdhIndNA (n : Byte) (s : State) : Result := .next (storeA (highPage n) s)
/-- `LDH (C),A` (R183). -/
def execLdhIndCA (s : State) : Result := .next (storeA (highPage (s.reg .c)) s)
/-- `LD (nn),A` (R181). -/
def execLdIndNnA (nn : Word) (s : State) : Result := .next (storeA nn s)
/-- `LDH A,(n)` (R184). -/
def execLdhAIndN (n : Byte) (s : State) : Result := .next (loadA (highPage n) s)
/-- `LDH A,(C)` (R182). -/
def execLdhAIndC (s : State) : Result := .next (loadA (highPage (s.reg .c)) s)
/-- `LD A,(nn)` (R180). -/
def execLdAIndNn (nn : Word) (s : State) : Result := .next (loadA nn s)

end Sys2Proof.Machine
end

