-- ==== Sys2Proof/Machine/Rotate.lean ====
section
/-! DEFINITION. The rotates and shifts (44_rotate_shift_bit.md R270 to R290). The shared operations come first, then one meaning for each instruction. -/

namespace Sys2Proof.Machine

/-- An accumulator rotate: the same functions, with Z always cleared (R270 to R274). -/
def rotateA (op : RotOp) (s : State) : State :=
  let r := rotate op s.cpu.a s.flagC
  (s.setReg .a r.1).setFlags false false false r.2
/-- The flags of a CB-page rotate or shift: Z from the result, N and H clear, C the carry out (R270). -/
def setRotFlags (r : Byte × Bool) (s : State) : State := s.setFlags (r.1 == 0) false false r.2
/-- A rotate or shift of a register. -/
def rotateReg (op : RotOp) (x : R8) (s : State) : State :=
  let r := rotate op (s.reg x) s.flagC
  setRotFlags r (s.setReg x r.1)
/-- A rotate or shift of `(HL)`: one read, then one write. -/
def rotateMem (op : RotOp) (s : State) : State :=
  let r := rotate op (readHL s) s.flagC
  setRotFlags r (writeHL r.1 s)

/-- `RLCA` (R271). -/
def execRlca (s : State) : Result := .next (rotateA .rlc s)
/-- `RRCA` (R272). -/
def execRrca (s : State) : Result := .next (rotateA .rrc s)
/-- `RLA` (R273). -/
def execRla (s : State) : Result := .next (rotateA .rl s)
/-- `RRA` (R274). -/
def execRra (s : State) : Result := .next (rotateA .rr s)
/-- `RLC B` (R275). -/
def execRlcB (s : State) : Result := .next (rotateReg .rlc .b s)
/-- `RLC C` (R275). -/
def execRlcC (s : State) : Result := .next (rotateReg .rlc .c s)
/-- `RLC D` (R275). -/
def execRlcD (s : State) : Result := .next (rotateReg .rlc .d s)
/-- `RLC E` (R275). -/
def execRlcE (s : State) : Result := .next (rotateReg .rlc .e s)
/-- `RLC H` (R275). -/
def execRlcH (s : State) : Result := .next (rotateReg .rlc .h s)
/-- `RLC L` (R275). -/
def execRlcL (s : State) : Result := .next (rotateReg .rlc .l s)
/-- `RLC (HL)` (R276). -/
def execRlcIndHL (s : State) : Result := .next (rotateMem .rlc s)
/-- `RLC A` (R275). -/
def execRlcA (s : State) : Result := .next (rotateReg .rlc .a s)
/-- `RRC B` (R277). -/
def execRrcB (s : State) : Result := .next (rotateReg .rrc .b s)
/-- `RRC C` (R277). -/
def execRrcC (s : State) : Result := .next (rotateReg .rrc .c s)
/-- `RRC D` (R277). -/
def execRrcD (s : State) : Result := .next (rotateReg .rrc .d s)
/-- `RRC E` (R277). -/
def execRrcE (s : State) : Result := .next (rotateReg .rrc .e s)
/-- `RRC H` (R277). -/
def execRrcH (s : State) : Result := .next (rotateReg .rrc .h s)
/-- `RRC L` (R277). -/
def execRrcL (s : State) : Result := .next (rotateReg .rrc .l s)
/-- `RRC (HL)` (R278). -/
def execRrcIndHL (s : State) : Result := .next (rotateMem .rrc s)
/-- `RRC A` (R277). -/
def execRrcA (s : State) : Result := .next (rotateReg .rrc .a s)
/-- `RL B` (R279). -/
def execRlB (s : State) : Result := .next (rotateReg .rl .b s)
/-- `RL C` (R279). -/
def execRlC (s : State) : Result := .next (rotateReg .rl .c s)
/-- `RL D` (R279). -/
def execRlD (s : State) : Result := .next (rotateReg .rl .d s)
/-- `RL E` (R279). -/
def execRlE (s : State) : Result := .next (rotateReg .rl .e s)
/-- `RL H` (R279). -/
def execRlH (s : State) : Result := .next (rotateReg .rl .h s)
/-- `RL L` (R279). -/
def execRlL (s : State) : Result := .next (rotateReg .rl .l s)
/-- `RL (HL)` (R280). -/
def execRlIndHL (s : State) : Result := .next (rotateMem .rl s)
/-- `RL A` (R279). -/
def execRlA (s : State) : Result := .next (rotateReg .rl .a s)
/-- `RR B` (R281). -/
def execRrB (s : State) : Result := .next (rotateReg .rr .b s)
/-- `RR C` (R281). -/
def execRrC (s : State) : Result := .next (rotateReg .rr .c s)
/-- `RR D` (R281). -/
def execRrD (s : State) : Result := .next (rotateReg .rr .d s)
/-- `RR E` (R281). -/
def execRrE (s : State) : Result := .next (rotateReg .rr .e s)
/-- `RR H` (R281). -/
def execRrH (s : State) : Result := .next (rotateReg .rr .h s)
/-- `RR L` (R281). -/
def execRrL (s : State) : Result := .next (rotateReg .rr .l s)
/-- `RR (HL)` (R282). -/
def execRrIndHL (s : State) : Result := .next (rotateMem .rr s)
/-- `RR A` (R281). -/
def execRrA (s : State) : Result := .next (rotateReg .rr .a s)
/-- `SLA B` (R283). -/
def execSlaB (s : State) : Result := .next (rotateReg .sla .b s)
/-- `SLA C` (R283). -/
def execSlaC (s : State) : Result := .next (rotateReg .sla .c s)
/-- `SLA D` (R283). -/
def execSlaD (s : State) : Result := .next (rotateReg .sla .d s)
/-- `SLA E` (R283). -/
def execSlaE (s : State) : Result := .next (rotateReg .sla .e s)
/-- `SLA H` (R283). -/
def execSlaH (s : State) : Result := .next (rotateReg .sla .h s)
/-- `SLA L` (R283). -/
def execSlaL (s : State) : Result := .next (rotateReg .sla .l s)
/-- `SLA (HL)` (R284). -/
def execSlaIndHL (s : State) : Result := .next (rotateMem .sla s)
/-- `SLA A` (R283). -/
def execSlaA (s : State) : Result := .next (rotateReg .sla .a s)
/-- `SRA B` (R285). -/
def execSraB (s : State) : Result := .next (rotateReg .sra .b s)
/-- `SRA C` (R285). -/
def execSraC (s : State) : Result := .next (rotateReg .sra .c s)
/-- `SRA D` (R285). -/
def execSraD (s : State) : Result := .next (rotateReg .sra .d s)
/-- `SRA E` (R285). -/
def execSraE (s : State) : Result := .next (rotateReg .sra .e s)
/-- `SRA H` (R285). -/
def execSraH (s : State) : Result := .next (rotateReg .sra .h s)
/-- `SRA L` (R285). -/
def execSraL (s : State) : Result := .next (rotateReg .sra .l s)
/-- `SRA (HL)` (R286). -/
def execSraIndHL (s : State) : Result := .next (rotateMem .sra s)
/-- `SRA A` (R285). -/
def execSraA (s : State) : Result := .next (rotateReg .sra .a s)
/-- `SWAP B` (R287). -/
def execSwapB (s : State) : Result := .next (rotateReg .swap .b s)
/-- `SWAP C` (R287). -/
def execSwapC (s : State) : Result := .next (rotateReg .swap .c s)
/-- `SWAP D` (R287). -/
def execSwapD (s : State) : Result := .next (rotateReg .swap .d s)
/-- `SWAP E` (R287). -/
def execSwapE (s : State) : Result := .next (rotateReg .swap .e s)
/-- `SWAP H` (R287). -/
def execSwapH (s : State) : Result := .next (rotateReg .swap .h s)
/-- `SWAP L` (R287). -/
def execSwapL (s : State) : Result := .next (rotateReg .swap .l s)
/-- `SWAP (HL)` (R288). -/
def execSwapIndHL (s : State) : Result := .next (rotateMem .swap s)
/-- `SWAP A` (R287). -/
def execSwapA (s : State) : Result := .next (rotateReg .swap .a s)
/-- `SRL B` (R289). -/
def execSrlB (s : State) : Result := .next (rotateReg .srl .b s)
/-- `SRL C` (R289). -/
def execSrlC (s : State) : Result := .next (rotateReg .srl .c s)
/-- `SRL D` (R289). -/
def execSrlD (s : State) : Result := .next (rotateReg .srl .d s)
/-- `SRL E` (R289). -/
def execSrlE (s : State) : Result := .next (rotateReg .srl .e s)
/-- `SRL H` (R289). -/
def execSrlH (s : State) : Result := .next (rotateReg .srl .h s)
/-- `SRL L` (R289). -/
def execSrlL (s : State) : Result := .next (rotateReg .srl .l s)
/-- `SRL (HL)` (R290). -/
def execSrlIndHL (s : State) : Result := .next (rotateMem .srl s)
/-- `SRL A` (R289). -/
def execSrlA (s : State) : Result := .next (rotateReg .srl .a s)

end Sys2Proof.Machine
end

