-- ==== Sys2Proof/Machine/System.lean ====
section
/-! DEFINITION. NOP, HALT, STOP, DI, EI and the illegal opcodes (46_system.md R330 to R336). The shared operations come first, then one meaning for each instruction. -/

namespace Sys2Proof.Machine

/-- `NOP`: nothing (R330). -/
def doNop (s : State) : State := s
/-- `HALT`: with IME clear and a request pending it arms the HALT bug, else it halts (R331). -/
def doHalt (s : State) : State :=
  if !s.cpu.ime && pendingBits s != 0 then s.setHaltBug true else s.setHalted true
/-- `STOP`: `stopped <- 1`; the padding byte plays no part (R332). -/
def doStop (s : State) : State := s.setStopped true
/-- `DI`: IME and the EI latch cleared at once (R333). -/
def disableInterrupts (s : State) : State := (s.setIme false).setEiPending false
/-- `EI`: the latch set; IME waits for the next instruction (R334). -/
def enableInterrupts (s : State) : State := s.setEiPending true

/-- `NOP` (R330). -/
def execNop (s : State) : Result := .next (doNop s)
/-- `STOP` (R332). -/
def execStop (_pad : Byte) (s : State) : Result := .next (doStop s)
/-- `HALT` (R331). -/
def execHalt (s : State) : Result := .next (doHalt s)
/-- `ILLEGAL` (R336). -/
def execIllegal (_op : Byte) (s : State) : Result := .next (raiseIllegal s)
/-- `DI` (R333). -/
def execDi (s : State) : Result := .next (disableInterrupts s)
/-- `EI` (R334). -/
def execEi (s : State) : Result := .next (enableInterrupts s)

end Sys2Proof.Machine
end

