-- ==== Sys2Proof/Machine/Render.lean ====
section
/-! DEFINITION. `RenderScanline` (60_exceptions.md R420 to R431): one visible line from the registers, VRAM, OAM and palettes
of the moment. It reads the stores directly, never through the bus. -/

namespace Sys2Proof.Machine

/-- The byte at VRAM address `a` of a bank (R421). -/
def vramByte (s : State) (bank a : Nat) : Byte := s.peek .vram (bank * 0x2000 + (a - 0x8000))

/-- The colour index in column `c` of a tile row's two bytes (R421). -/
def colourIndex (lo hi : Byte) (c : Nat) : BitVec 2 := BitVec.ofBool (hi.getLsbD (7 - c)) ++ BitVec.ofBool (lo.getLsbD (7 - c))

/-- `TileAddr(t)`: unsigned from 0x8000 or signed around 0x9000, by LCDC bit 4 (R421). -/
def tileAddr (s : State) (t : Byte) : Nat :=
  if s.ppu.lcdc.getLsbD 4 then 0x8000 + 16 * t.toNat
  else if t.toNat < 128 then 0x9000 + 16 * t.toNat else 0x9000 + 16 * t.toNat - 16 * 256

/-- The colour index of a tile's pixel: row `r`, column `c`, the tile's data at `addr` of a bank (R421). -/
def tilePixel (s : State) (bank addr r c : Nat) : BitVec 2 :=
  colourIndex (vramByte s bank (addr + 2 * r)) (vramByte s bank (addr + 2 * r + 1)) c

/-- A background or window pixel: its colour index and its attribute byte, 0 on DMG. -/
structure BgPixel where
  cid  : BitVec 2
  attr : Byte
  deriving DecidableEq, Repr

/-- `FetchBg(t, a, c, r)`: the flips and the bank from the attribute (R422). -/
def fetchBg (s : State) (t a : Byte) (c r : Nat) : BgPixel :=
  let r := if a.getLsbD 6 then 7 - r else r
  let c := if a.getLsbD 5 then 7 - c else c
  { cid := tilePixel s (a.getLsbD 3).toNat (tileAddr s t) r c, attr := a }

/-- The pixel at (`px`, `py`) of the plane whose map is at `base` (R422, R423). Beyond row 255, where only a window line of 256
or more leads, the byte is the one `vramByte` gives past the map (DESIGN CHOICE, log entry 28). -/
def mapPixel (s : State) (base px py : Nat) : BgPixel :=
  let m := base + 32 * (py / 8) + px / 8
  fetchBg s (vramByte s 0 m) (if s.cfg.cgb then vramByte s 1 m else 0) (px % 8) (py % 8)

/-- Whether the window is drawn on line `ly` (R423). -/
def windowDrawn (s : State) (ly : Nat) : Bool :=
  s.ppu.lcdc.getLsbD 5 && decide (s.ppu.wy.toNat ≤ ly) && decide (s.ppu.wx.toNat ≤ 166) &&
    (s.cfg.cgb || s.ppu.lcdc.getLsbD 0)

/-- Whether background and window are not fetched at all: DMG with LCDC bit 0 clear (R424). -/
def bgBlank (s : State) : Bool := !s.cfg.cgb && !s.ppu.lcdc.getLsbD 0

/-- The background or window pixel at column `x` of line `ly` (R422, R423, R424). -/
def bgPixel (s : State) (ly x : Nat) : BgPixel :=
  if bgBlank s then { cid := 0, attr := 0 }
  else if windowDrawn s ly && decide (s.ppu.wx.toNat ≤ x + 7) then
    mapPixel s (if s.ppu.lcdc.getLsbD 6 then 0x9C00 else 0x9800) (x + 7 - s.ppu.wx.toNat) s.ppu.windowLine
  else
    mapPixel s (if s.ppu.lcdc.getLsbD 3 then 0x9C00 else 0x9800) ((s.ppu.scx.toNat + x) % 256) ((s.ppu.scy.toNat + ly) % 256)

/-- `dmgShadeRgb(shade)` (R424). -/
def shadeRgb (cfg : Config) (shade : BitVec 2) : Rgb :=
  if shade = 0 then cfg.shades.shade0 else if shade = 1 then cfg.shades.shade1
  else if shade = 2 then cfg.shades.shade2 else cfg.shades.shade3

/-- A DMG palette register's shade for a colour index, bits `2*cid+1 : 2*cid` (R424, R430). -/
def paletteShade (palette : Byte) (cid : BitVec 2) : BitVec 2 := palette.extractLsb' (2 * cid.toNat) 2

/-- `E(c) = ((c << 3) | (c >> 2)) & 0xFF` (R431). -/
def expand5 (c : BitVec 5) : Byte := (c.setWidth 8 <<< 3) ||| (c.setWidth 8 >>> 2)

/-- `Rgb(c15)`: red in the low field (R431). -/
def rgb15 (c : Word) : Rgb :=
  { red := expand5 (c.extractLsb' 0 5), green := expand5 (c.extractLsb' 5 5), blue := expand5 (c.extractLsb' 10 5) }

/-- A colour of a palette RAM: the word at `8*palette + 2*cid`, low byte first (R424, R430). -/
def paletteColour (s : State) (k : Store) (palette : BitVec 3) (cid : BitVec 2) : Rgb :=
  let i := 8 * palette.toNat + 2 * cid.toNat
  rgb15 (wordOf (s.peek k (i + 1)) (s.peek k i))

/-- The colour of a background or window pixel (R424). -/
def bgColour (s : State) (p : BgPixel) : Rgb :=
  if s.cfg.cgb then paletteColour s .bgPalRam (p.attr.extractLsb' 0 3) p.cid
  else if bgBlank s then shadeRgb s.cfg 0
  else shadeRgb s.cfg (paletteShade s.ppu.bgp p.cid)

/-- `bg_prio` of a pixel: colour not 0, or CGB's attribute bit 7; never while LCDC bit 0 is clear (R425). -/
def bgPriority (s : State) (p : BgPixel) : Bool :=
  s.ppu.lcdc.getLsbD 0 && (p.cid != 0 || s.cfg.cgb && p.attr.getLsbD 7)

/-- An OAM entry (R426). -/
structure Sprite where
  y : Byte
  x : Byte
  tile : Byte
  attr : Byte
  deriving DecidableEq, Repr

/-- OAM entry `i` (R426). -/
def oamEntry (s : State) (i : Nat) : Sprite :=
  { y := s.peek .oam (4 * i), x := s.peek .oam (4 * i + 1), tile := s.peek .oam (4 * i + 2), attr := s.peek .oam (4 * i + 3) }

/-- The sprite height, by LCDC bit 2 (R426). -/
def spriteHeight (s : State) : Nat := if s.ppu.lcdc.getLsbD 2 then 16 else 8

/-- Whether an entry intersects line `ly` (R426). -/
def onLine (s : State) (ly : Nat) (o : Sprite) : Bool :=
  decide (o.y.toNat ≤ ly + 16) && decide (ly + 16 < o.y.toNat + spriteHeight s)

/-- The entries selected for line `ly`, in OAM order: the first ten that intersect it, none while LCDC bit 1 is clear (R426). -/
def selectedSprites (s : State) (ly : Nat) : List Sprite :=
  if s.ppu.lcdc.getLsbD 1 then (((List.range 40).map (oamEntry s)).filter (onLine s ly)).take 10 else []

/-- Puts a sprite behind every one of no greater X, so that equal X keep OAM order (R427). -/
def insertByX (o : Sprite) : List Sprite → List Sprite
  | [] => [o]
  | p :: rest => if o.x.toNat ≤ p.x.toNat then o :: p :: rest else p :: insertByX o rest

/-- Sorts by X, stably (R427). -/
def sortByX : List Sprite → List Sprite
  | [] => []
  | o :: rest => insertByX o (sortByX rest)

/-- The selected sprites, highest priority first: DMG by X then OAM index, CGB by OAM index (R427). -/
def spriteOrder (s : State) (ly : Nat) : List Sprite :=
  if s.cfg.cgb then selectedSprites s ly else sortByX (selectedSprites s ly)

/-- The colour index of a sprite in its column `sx` on line `ly` (R428). -/
def spritePixel (s : State) (ly : Nat) (o : Sprite) (sx : Nat) : BitVec 2 :=
  let h := spriteHeight s
  let r := ly + 16 - o.y.toNat
  let r := if o.attr.getLsbD 6 then h - 1 - r else r
  let t := if h = 16 then o.tile &&& 0xFE else o.tile
  let c := if o.attr.getLsbD 5 then 7 - sx else sx
  tilePixel s (if s.cfg.cgb then (o.attr.getLsbD 3).toNat else 0) (0x8000 + 16 * t.toNat) r c

/-- A sprite pixel's colour (R430). -/
def spriteColour (s : State) (o : Sprite) (cid : BitVec 2) : Rgb :=
  if s.cfg.cgb then paletteColour s .objPalRam (o.attr.extractLsb' 0 3) cid
  else shadeRgb s.cfg (paletteShade (if o.attr.getLsbD 4 then s.ppu.obp1 else s.ppu.obp0) cid)

/-- The colour a sprite shows at column `x` of line `ly`, given the background's priority flag there: nothing where the
sprite does not reach, is transparent, or is hidden behind the background (R428, R429). -/
def spriteShows (s : State) (ly x : Nat) (prio : Bool) (o : Sprite) : Option Rgb :=
  if o.x.toNat ≤ x + 8 ∧ x < o.x.toNat then
    let cid := spritePixel s ly o (x + 8 - o.x.toNat)
    if cid = 0 then none
    else if o.attr.getLsbD 7 && prio then none
    else some (spriteColour s o cid)
  else none

/-- The pixel at column `x` of line `ly`. The sprites are drawn from the lowest priority to the highest, so the one that
stays is the first of `sprites`, which stand highest first, that shows anything there (R429). -/
def linePixel (s : State) (ly : Nat) (sprites : List Sprite) (x : Nat) : Rgb × Bool :=
  let p := bgPixel s ly x
  let prio := bgPriority s p
  ((sprites.findSome? (spriteShows s ly x prio)).getD (bgColour s p), prio)

/-- The 160 pixels of line `ly` with their priority flags. -/
def linePixels (s : State) (ly : Nat) : List (Rgb × Bool) := (List.range 160).map (linePixel s ly (spriteOrder s ly))

/-- Writes triples to the framebuffer from pixel number `n` on (R431, D28). -/
def putPixels : Nat → List Rgb → State → State
  | _, [], s => s
  | n, c :: rest, s =>
    putPixels (n + 1) rest
      (((s.poke .framebuffer (3 * n) c.red).poke .framebuffer (3 * n + 1) c.green).poke .framebuffer (3 * n + 2) c.blue)

/-- `RenderScanline(ly)` (R420): the framebuffer line, the priority map, and the window line where the window was drawn. -/
def renderScanline (ly : Nat) (s : State) : State :=
  let pixels := linePixels s ly
  let drawn := windowDrawn s ly
  let s := putPixels (ly * 160) (pixels.map (·.1)) s
  { s with ppu := { s.ppu with bgPrio := pixels.map (·.2)
                               windowLine := if drawn then s.ppu.windowLine + 1 else s.ppu.windowLine } }

end Sys2Proof.Machine
end

