-- ==== Sys2Proof/Machine/PpuTick.lean ====
section
/-! DEFINITION. The PPU's mode sequence (60_exceptions.md R410 to R415). -/

namespace Sys2Proof.Machine

/-- Requests the STAT interrupt when an enable bit of STAT is set: index 0 is STAT bit 3, mode 0; 1 is bit 4, mode 1;
2 is bit 5, mode 2; 3 is bit 6, LY=LYC (R38, R413). -/
def requestStat (enable : Nat) (s : State) : State := requestIf (s.ppu.statEn.getLsbD enable) .stat s

/-- `LycCheck()` (R414). -/
def lycCheck (s : State) : State := requestIf (s.ppu.ly == s.ppu.lyc && s.ppu.statEn.getLsbD 3) .stat s

/-- Mode 3 begins; nothing is requested (R413). -/
def enterTransfer (s : State) : State := { s with ppu := { s.ppu with mode := .transfer } }

/-- Mode 3 ends: the line is rendered, mode 0 begins (R412). -/
def enterHBlank (s : State) : State :=
  let s := renderScanline s.ppu.ly.toNat s
  requestStat 0 { s with ppu := { s.ppu with mode := .hblank } }

/-- A visible line ends: the next visible line's mode 2, or V-Blank with the frame emitted (R412, R415). -/
def endVisibleLine (s : State) : State :=
  let s := { s with ppu := { s.ppu with scanCounter := s.ppu.scanCounter - 456, ly := s.ppu.ly + 1 } }
  let s :=
    if s.ppu.ly = 144 then
      let s := requestInterrupt .vblank { s with ppu := { s.ppu with mode := .vblank } }
      requestStat 1 { s with ppu := { s.ppu with frameReady := true } }
    else requestStat 2 { s with ppu := { s.ppu with mode := .oamScan } }
  lycCheck s

/-- A V-Blank line ends; after line 153 the next frame begins (R412). LY is eight bits: above 153, where only a raw host
write puts it, it counts on and wraps (log entry 8). -/
def endVBlankLine (s : State) : State :=
  let s := { s with ppu := { s.ppu with scanCounter := s.ppu.scanCounter - 456 } }
  let s :=
    if s.ppu.ly = 153 then
      requestStat 2 { s with ppu := { s.ppu with ly := 0, mode := .oamScan, windowLine := 0 } }
    else { s with ppu := { s.ppu with ly := s.ppu.ly + 1 } }
  lycCheck s

/-- One pass of the loop of R412; nothing where the loop exits. -/
def ppuAdvance (s : State) : Option State :=
  if s.ppu.ly.toNat ≤ 143 then
    match s.ppu.mode with
    | .oamScan => if 80 ≤ s.ppu.scanCounter then some (enterTransfer s) else none
    | .transfer => if 252 ≤ s.ppu.scanCounter then some (enterHBlank s) else none
    | .hblank => if 456 ≤ s.ppu.scanCounter then some (endVisibleLine s) else none
    | .vblank => none
  else if 456 ≤ s.ppu.scanCounter then some (endVBlankLine s)
  else none

/-- At most `fuel` passes of the loop. -/
def ppuLoop : (fuel : Nat) → State → State
  | 0, s => s
  | fuel + 1, s =>
    match ppuAdvance s with
    | some s' => ppuLoop fuel s'
    | none => s

/-- Passes enough for the loop to exit: three at most for each 456 cycles counted (R412; log entry 7). -/
def ppuFuel (scanCounter : Nat) : Nat := 3 * (scanCounter / 456 + 1)

/-- `PpuTick(cycles)` (R412); nothing while the LCD is off (R410). -/
def ppuTick (cycles : Nat) (s : State) : State :=
  if s.ppu.lcdc.getLsbD 7 then
    let s := { s with ppu := { s.ppu with scanCounter := s.ppu.scanCounter + cycles } }
    ppuLoop (ppuFuel s.ppu.scanCounter) s
  else s

end Sys2Proof.Machine
end

