-- ==== Sys2Proof/Machine/Timer.lean ====
section
/-! DEFINITION. The OAM DMA window and the timer as cycles pass (60_exceptions.md R390 to R394, R401). -/

namespace Sys2Proof.Machine

/-- `DmaTick(cycles)` (R401). -/
def dmaTick (cycles : Nat) (s : State) : State :=
  { s with dma := { s.dma with cyclesLeft := s.dma.cyclesLeft - cycles } }

/-- The cycles of one TIMA increment, by TAC bits 1:0 (R391). -/
def timerPeriod (tac : BitVec 3) : Nat :=
  match tac.extractLsb' 0 2 with
  | 0 => 1024
  | 1 => 16
  | 2 => 64
  | 3 => 256

/-- One pass of the TIMA loop: count, or reload from TMA and request the timer interrupt (R392). -/
def timaStep (s : State) : State :=
  if s.timer.tima = 0xFF then requestInterrupt .timer { s with timer := { s.timer with tima := s.timer.tma } }
  else { s with timer := { s.timer with tima := s.timer.tima + 1 } }

/-- `n` passes of the TIMA loop. -/
def timaSteps : Nat → State → State
  | 0, s => s
  | n + 1, s => timaSteps n (timaStep s)

/-- The DIV half of `TimerTick`: one count for each 256 cycles (R392; log entry 6). -/
def divTick (cycles : Nat) (s : State) : State :=
  let total := s.timer.divCounter + cycles
  { s with timer := { s.timer with div := s.timer.div + BitVec.ofNat 8 (total / 256), divCounter := total % 256 } }

/-- The TIMA half of `TimerTick`: nothing while TAC bit 2 is clear (R392; log entry 6). -/
def timaTick (cycles : Nat) (s : State) : State :=
  if s.timer.tac.getLsbD 2 then
    let total := s.timer.timaCounter + cycles
    let period := timerPeriod s.timer.tac
    let s := timaSteps (total / period) s
    { s with timer := { s.timer with timaCounter := total % period } }
  else s

/-- `TimerTick(cycles)` (R392). -/
def timerTick (cycles : Nat) (s : State) : State := timaTick cycles (divTick cycles s)

end Sys2Proof.Machine
end

