-- ==== Sys2Proof/Machine/Timing.lean ====
section
/-! DEFINITION. What an instruction costs in CPU cycles (70_reset_and_hazards.md R470, R471; 30_encoding.md R144). -/

namespace Sys2Proof.Machine

/-- The grid of R470 for the primary page, one row for each high nibble: (not taken, taken), the two equal where the cost
is fixed. An illegal opcode bills 0; the prefix byte 0xCB has no cost of its own. -/
def cycleRow (row : Nat) : List (Nat × Nat) :=
  match row with
  | 0x0 => [(4, 4), (12, 12), (8, 8), (8, 8), (4, 4), (4, 4), (8, 8), (4, 4),
     (20, 20), (8, 8), (8, 8), (8, 8), (4, 4), (4, 4), (8, 8), (4, 4)]
  | 0x1 => [(4, 4), (12, 12), (8, 8), (8, 8), (4, 4), (4, 4), (8, 8), (4, 4),
     (12, 12), (8, 8), (8, 8), (8, 8), (4, 4), (4, 4), (8, 8), (4, 4)]
  | 0x2 => [(8, 12), (12, 12), (8, 8), (8, 8), (4, 4), (4, 4), (8, 8), (4, 4),
     (8, 12), (8, 8), (8, 8), (8, 8), (4, 4), (4, 4), (8, 8), (4, 4)]
  | 0x3 => [(8, 12), (12, 12), (8, 8), (8, 8), (12, 12), (12, 12), (12, 12), (4, 4),
     (8, 12), (8, 8), (8, 8), (8, 8), (4, 4), (4, 4), (8, 8), (4, 4)]
  | 0x4 => [(4, 4), (4, 4), (4, 4), (4, 4), (4, 4), (4, 4), (8, 8), (4, 4),
     (4, 4), (4, 4), (4, 4), (4, 4), (4, 4), (4, 4), (8, 8), (4, 4)]
  | 0x5 => [(4, 4), (4, 4), (4, 4), (4, 4), (4, 4), (4, 4), (8, 8), (4, 4),
     (4, 4), (4, 4), (4, 4), (4, 4), (4, 4), (4, 4), (8, 8), (4, 4)]
  | 0x6 => [(4, 4), (4, 4), (4, 4), (4, 4), (4, 4), (4, 4), (8, 8), (4, 4),
     (4, 4), (4, 4), (4, 4), (4, 4), (4, 4), (4, 4), (8, 8), (4, 4)]
  | 0x7 => [(8, 8), (8, 8), (8, 8), (8, 8), (8, 8), (8, 8), (4, 4), (8, 8),
     (4, 4), (4, 4), (4, 4), (4, 4), (4, 4), (4, 4), (8, 8), (4, 4)]
  | 0x8 => [(4, 4), (4, 4), (4, 4), (4, 4), (4, 4), (4, 4), (8, 8), (4, 4),
     (4, 4), (4, 4), (4, 4), (4, 4), (4, 4), (4, 4), (8, 8), (4, 4)]
  | 0x9 => [(4, 4), (4, 4), (4, 4), (4, 4), (4, 4), (4, 4), (8, 8), (4, 4),
     (4, 4), (4, 4), (4, 4), (4, 4), (4, 4), (4, 4), (8, 8), (4, 4)]
  | 0xA => [(4, 4), (4, 4), (4, 4), (4, 4), (4, 4), (4, 4), (8, 8), (4, 4),
     (4, 4), (4, 4), (4, 4), (4, 4), (4, 4), (4, 4), (8, 8), (4, 4)]
  | 0xB => [(4, 4), (4, 4), (4, 4), (4, 4), (4, 4), (4, 4), (8, 8), (4, 4),
     (4, 4), (4, 4), (4, 4), (4, 4), (4, 4), (4, 4), (8, 8), (4, 4)]
  | 0xC => [(8, 20), (12, 12), (12, 16), (16, 16), (12, 24), (16, 16), (8, 8), (16, 16),
     (8, 20), (16, 16), (12, 16), (0, 0), (12, 24), (24, 24), (8, 8), (16, 16)]
  | 0xD => [(8, 20), (12, 12), (12, 16), (0, 0), (12, 24), (16, 16), (8, 8), (16, 16),
     (8, 20), (16, 16), (12, 16), (0, 0), (12, 24), (0, 0), (8, 8), (16, 16)]
  | 0xE => [(12, 12), (12, 12), (8, 8), (0, 0), (0, 0), (16, 16), (8, 8), (16, 16),
     (16, 16), (4, 4), (16, 16), (0, 0), (0, 0), (0, 0), (8, 8), (16, 16)]
  | 0xF => [(12, 12), (12, 12), (8, 8), (4, 4), (0, 0), (16, 16), (8, 8), (16, 16),
     (12, 12), (8, 8), (16, 16), (4, 4), (0, 0), (0, 0), (8, 8), (16, 16)]
  | _ => []

/-- The default cost of an opcode on the primary page. -/
def primaryCost (op : Byte) : Nat × Nat := (cycleRow (op.toNat / 16)).getD (op.toNat % 16) (0, 0)

/-- The default cost on the CB page, the prefix byte included: 8 on a register, 12 for `BIT b,(HL)`, 16 for the other
forms on `(HL)` (R470). -/
def cbCost (op : Byte) : Nat :=
  if op.extractLsb' 0 3 = 6 then (if op.extractLsb' 6 2 = 1 then 12 else 16) else 8

/-- The default table by page and opcode. -/
def defaultCost (cbPage : Bool) (op : Byte) : Nat × Nat := if cbPage then (cbCost op, cbCost op) else primaryCost op

/-- The page and the opcode byte of an instruction. -/
def opcodeKey (i : Instr) : Bool × Byte :=
  match encode i with
  | op :: rest => if op = 0xCB then (true, rest.headD 0) else (false, op)
  | [] => (false, 0)

/-- `Config.cycles`: the entry that replaces the default, or the default (R6, R470; log entry 11). -/
def costOf (cfg : Config) (cbPage : Bool) (op : Byte) : Nat × Nat :=
  match cfg.cycles.find? (fun e => e.cbPage == cbPage && e.opcode == op) with
  | some e => (e.base, e.taken)
  | none => defaultCost cbPage op

/-- The condition of a conditional jump, call or return. -/
def condOf : Instr → Option Cond
  | .jrNZ _ | .jpNZ _ | .callNZ _ | .retNZ => some .nz
  | .jrZ _ | .jpZ _ | .callZ _ | .retZ => some .z
  | .jrNC _ | .jpNC _ | .callNC _ | .retNC => some .nc
  | .jrC _ | .jpC _ | .callC _ | .retC => some .c
  | _ => none

/-- Whether the taken count applies, on the state before the instruction: no conditional instruction writes a flag
(R312, R315, R317, R319; log entry 13). An unconditional instruction's two counts are one (R470). -/
def branchTaken (i : Instr) (s : State) : Bool :=
  match condOf i with
  | some cc => condHolds cc s
  | none => false

/-- The cycle count of an instruction; an illegal opcode bills 0 whatever the table (R380). -/
def cycleCount (i : Instr) (s : State) : Nat :=
  match i with
  | .illegal _ => 0
  | i =>
    let cost := costOf s.cfg (opcodeKey i).1 (opcodeKey i).2
    if branchTaken i s then cost.2 else cost.1

end Sys2Proof.Machine
end

