-- ==== Sys2Proof/Machine/CoreStep.lean ====
section
/-! DEFINITION. `CoreStep` (60_exceptions.md R400): the interrupt check, one instruction or an idle bill, and the devices. -/

namespace Sys2Proof.Machine

/-- The tick phase: DMA window, timer, PPU, each by the same count, nothing when it is 0 (R400, D34). -/
def tick (cycles : Nat) (s : State) : State :=
  if cycles = 0 then s else ppuTick cycles (timerTick cycles (dmaTick cycles s))

/-- The model's own count of free moments, one for each step (log entry 3). -/
def nextMoment (s : State) : State := { s with freeCount := s.freeCount + 1 }

/-- The end of a step: the devices receive the step's cycles. -/
def endStep (cycles : Nat) (s : State) : State := nextMoment (tick cycles s)

/-- Fetches and executes one instruction at PC and consumes the EI latch (R144, R365). -/
def runInstr (s : State) : Result :=
  match exec (fetchedInstr s) (afterFetch s) with
  | .next t => .next (consumeEi s.cpu.eiPending t)
  | .fault f => .fault f
  | .refused r => .refused r

/-- The cycles the instruction at PC bills, the condition taken from the state before it runs (R470, log entry 13). -/
def instrCycles (s : State) : Nat := cycleCount (fetchedInstr s) (afterFetch s)

/-- `CoreStep()` (R400): the next state and the cycles billed. -/
def coreStep (s : State) : Host.Outcome (State × Nat) Fault Refusal :=
  if s.cpu.crashed then .next (s, 0)
  else if s.cpu.stopped then .next (endStep s.cfg.idleCycles s, s.cfg.idleCycles)
  else
    let (s, billed) := serviceInterrupts s
    if s.cpu.halted then .next (endStep (billed + s.cfg.idleCycles) s, billed + s.cfg.idleCycles)
    else
      match runInstr s with
      | .next t => .next (endStep (billed + instrCycles s) t, billed + instrCycles s)
      | .fault f => .fault f
      | .refused r => .refused r

end Sys2Proof.Machine
end

