-- ==== Sys2Proof/Machine/Step.lean ====
section
/-! DEFINITION. The step, and placing an instruction where the next step fetches it. -/

namespace Sys2Proof.Machine

/-- One step of the machine is one `CoreStep` (60_exceptions.md R400). -/
def step (s : State) : Host.Outcome State Fault Refusal :=
  match coreStep s with
  | .next r => .next r.1
  | .fault f => .fault f
  | .refused r => .refused r

/-- Stores an instruction's bytes where the next step fetches, and clears what would keep that step from fetching there:
the idle latches, an open DMA window, an IME that would dispatch (log entry 19). -/
def State.withFetchWord (s : State) (nbits w : Nat) : State :=
  let s := (((s.setCrashed false).setStopped false).setHalted false).setHaltBug false
  let s := { s with dma := { s.dma with cyclesLeft := 0 } }
  plantBytes s.cpu.pc (tableBytes nbits w) (if s.cpu.ime && pendingBits s != 0 then s.setIme false else s)

end Sys2Proof.Machine
end

