-- ==== Sys2Proof/Machine/HostCalls.lean ====
section
/-! DEFINITION. The host's calls (70_reset_and_hazards.md R450 to R454, R480 to R482; 60_exceptions.md R364, R402). -/

namespace Sys2Proof.Machine

/-- What `initialize` receives besides the images and the parameters of `Config` that are its own (R6, R450). -/
structure CreateOptions where
  enableBootRom : Bool
  cgb : Bool
  ramSize : Nat
  /-- The saved cartridge RAM the host imports, if any (R450 step 4). -/
  savedRam : Option (List Byte)
  /-- `resetProfile`, used when no boot ROM runs (R452). -/
  profile : ResetProfile
  mode3Lock : Bool
  idleCycles : Nat
  shades : Shades
  cycles : List CycleEntry
  deriving DecidableEq, Repr

/-- The defaults of R6 for a console variant. No boot ROM and no cartridge RAM are the model's own: R6 states no default for
`enableBootRom` and `ramSize` (DESIGN CHOICE, log entry 26). -/
def CreateOptions.default (cgb : Bool) : CreateOptions :=
  { enableBootRom := false, cgb := cgb, ramSize := 0, savedRam := none
    profile := if cgb then .postBootCgb else .postBootDmg
    mode3Lock := true, idleCycles := 4, shades := .grey, cycles := [] }

/-- The one error of `initialize` (R382): no machine is created. -/
inductive InitError where
  /-- The mapper byte names no supported mapper, or the image has no such byte (log entry 24). -/
  | unsupportedCartridge
  deriving DecidableEq, Repr

/-- The `Config` of a created machine (R450 step 1). -/
def CreateOptions.config (o : CreateOptions) (romSize bootRomSize : Nat) : Config :=
  { cgb := o.cgb, romSize := romSize, ramSize := o.ramSize, bootRomSize := bootRomSize, mode3Lock := o.mode3Lock
    idleCycles := o.idleCycles, shades := o.shades, cycles := o.cycles }

/-- `initialize(cartridgeBytes, bootRomBytes?, config)` (R450): the cold profile with the boot ROM mapped when one is
enabled and supplied, else the post-boot profile. A saved copy of another length than `ramSize` is taken as it is
(DESIGN CHOICE, log entry 27), and so is a profile that breaks R452's constraints or lists RAM in another form than the
canonical one (DESIGN CHOICE, log entry 29). -/
def create (cartridge : List Byte) (bootRom : Option (List Byte)) (o : CreateOptions) : Except InitError State :=
  match cartridge[0x147]?.bind MapperKind.ofHeader with
  | none => .error .unsupportedCartridge
  | some kind =>
    let runsBootRom := o.enableBootRom && bootRom.isSome
    let boot := bootRom.getD []
    .ok (.ofProfile (o.config cartridge.length boot.length) kind runsBootRom
      { rom := .ofBytes Store.rom.blank 0 cartridge
        bootRom := .ofBytes Store.bootRom.blank 0 boot
        cartRam := .ofBytes Store.cartRam.blank 0 (o.savedRam.getD []) }
      (if runsBootRom then .cold else o.profile))

/-- `setJoypad(b)`: the latch stored; a press requests the Joypad interrupt and ends STOP (R364). -/
def setJoypad (b : Byte) (s : State) : State :=
  let t := { s with joypad := { s.joypad with keys := b } }
  if b &&& ~~~s.joypad.keys != 0 then (requestInterrupt .joypad t).setStopped false else t

/-- `readMemory(addr)`: as the CPU reads, or raw (R482). It changes nothing the spec gives the machine; the model's free
moment advances, so that a later read may see another free byte (log entry 3). -/
def readMemory (raw : Bool) (a : Word) (s : State) : Byte × State :=
  (if raw then rawRead .host a s else memRead .host a s, nextMoment s)

/-- `writeMemory(addr, v)`: as the CPU writes, or raw (R482). A write to 0xFF46 copies bytes, so the free moment advances. -/
def writeMemory (raw : Bool) (a : Word) (v : Byte) (s : State) : State :=
  nextMoment (if raw then rawWrite a v s else memWrite a v s)

/-- The bytes `getFrameBufferPtr()` exposes, 160 * 144 * 3 of them (R480, D28). -/
def frameBuffer (s : State) : List Byte := (List.range 69120).map fun i => s.peek .framebuffer i

/-- What `step(cycleBudget)` returns (R402). -/
structure StepReport where
  cyclesRan : Nat
  frameReady : Bool
  crashed : Bool
  deriving DecidableEq, Repr

/-- The loop of R402 with at most `fuel` passes. -/
def runBudget (budget : Nat) : (fuel ran : Nat) → State → Host.Outcome (State × Nat) Fault Refusal
  | 0, ran, s => .next (s, ran)
  | fuel + 1, ran, s =>
    if !s.cpu.crashed && decide (ran < budget) then
      match coreStep s with
      | .next (t, n) => if t.ppu.frameReady then .next (t, ran + n) else runBudget budget fuel (ran + n) t
      | .fault f => .fault f
      | .refused r => .refused r
    else .next (s, ran)

/-- `step(cycleBudget)` (R402). Every pass bills at least one cycle or crashes the machine when the cycle parameters are
positive (R471), so `cycleBudget` passes end the loop (log entry 12). -/
def hostStep (budget : Nat) (s : State) : Host.Outcome (State × StepReport) Fault Refusal :=
  match runBudget budget budget 0 s with
  | .next (t, ran) =>
    .next ({ t with ppu := { t.ppu with frameReady := false } },
      { cyclesRan := ran, frameReady := t.ppu.frameReady, crashed := t.cpu.crashed })
  | .fault f => .fault f
  | .refused r => .refused r

/-- The default cycle budget, one full frame: 154 lines of 456 cycles (R402, R411). -/
def defaultBudget : Nat := 154 * 456

/-- `step` with the default budget (R402). -/
def hostStepDefault (s : State) : Host.Outcome (State × StepReport) Fault Refusal := hostStep defaultBudget s

end Sys2Proof.Machine
end

