-- ==== Sys2Proof/Safety.lean ====
section
/-! DEFINITION. What counts as a safe state and run, and the words the statements use for what an instruction leaves alone. -/

namespace Sys2Proof.Machine

/-! ### The invariant -/

/-- Every store holds its canonical form. -/
def StoresWf (s : State) : Prop := ∀ k : Store, Memory.wf k.blank (s.mem.get k) = true

/-- The mode agrees with LY and the scan counter (60_exceptions.md R403 (3), R410, R411). -/
def ModeOk (s : State) : Prop :=
  if s.ppu.lcdc.getLsbD 7 then s.ppu.mode = modeAt s.ppu.ly s.ppu.scanCounter
  else s.ppu.mode = .hblank ∧ s.ppu.ly = 0 ∧ s.ppu.scanCounter = 0

/-- The step invariants of R403 (2) to (4), with the counters and the window line in their ranges (R34, R42) and every store
in canonical form. -/
structure Inv (s : State) : Prop where
  fLow : s.cpu.f.extractLsb' 0 4 = 0
  mode : ModeOk s
  ly : s.ppu.ly.toNat ≤ 153
  scan : s.ppu.scanCounter ≤ 455
  div : s.timer.divCounter ≤ 255
  tima : s.timer.timaCounter ≤ 1023
  dma : s.dma.cyclesLeft ≤ 640
  stores : StoresWf s

/-! ### Safe runs -/

/-- The machine runs from `s` for `k` steps without a fault, a refusal or a crash. -/
def SafeRun : Nat → State → Prop
  | 0, s => s.cpu.crashed = false
  | k + 1, s => s.cpu.crashed = false ∧ ∃ t, step s = .next t ∧ SafeRun k t

/-! ### The numbers of the operand tables (30_encoding.md R142), written apart from the decoder -/

/-- The number of a register in the `r8` table; 6 is `(HL)`. -/
def codeR8 : R8 → Nat
  | .b => 0 | .c => 1 | .d => 2 | .e => 3 | .h => 4 | .l => 5 | .a => 7

/-- The number of a pair in the `r16` table. -/
def codeR16 : R16 → Nat
  | .bc => 0 | .de => 1 | .hl => 2 | .sp => 3

/-- The number of a pair in the `r16stk` table. -/
def codeStk : R16Stk → Nat
  | .bc => 0 | .de => 1 | .hl => 2 | .af => 3

/-- The number of a condition. -/
def codeCond : Cond → Nat
  | .nz => 0 | .z => 1 | .nc => 2 | .c => 3

/-- The number of an accumulator operation. -/
def codeAlu : AluOp → Nat
  | .add => 0 | .adc => 1 | .sub => 2 | .sbc => 3 | .and => 4 | .xor => 5 | .or => 6 | .cp => 7

/-- The number of a rotate or shift. -/
def codeRot : RotOp → Nat
  | .rlc => 0 | .rrc => 1 | .rl => 2 | .rr => 3 | .sla => 4 | .sra => 5 | .swap => 6 | .srl => 7

/-- An opcode byte by its number. -/
def opByte (n : Nat) : Byte := BitVec.ofNat 8 n

/-- A 16-bit immediate as its two bytes, low byte first. -/
def wordBytes (nn : Word) : List Byte := [opByte (nn.toNat % 256), opByte (nn.toNat / 256)]

/-- The instruction bills `n` cycles under the default table, in every state. -/
def Costs (i : Instr) (n : Nat) : Prop := ∀ s : State, s.cfg.cycles = [] → cycleCount i s = n

/-- The conditional instruction bills `taken` where its condition holds and `notTaken` where it does not. -/
def CostsBranch (i : Instr) (cc : Cond) (notTaken taken : Nat) : Prop :=
  ∀ s : State, s.cfg.cycles = [] → cycleCount i s = if condHolds cc s then taken else notTaken

/-- The three operand forms of an accumulator operation (42_alu8.md R215). -/
inductive AluForm where
  | reg (r : R8)
  | ind
  | imm (n : Byte)
  deriving DecidableEq, Repr

/-- The instruction of a form. -/
def AluForm.instr (op : AluOp) : AluForm → Instr
  | .reg r => .aluReg op r
  | .ind => .aluInd op
  | .imm n => .aluN op n

/-- The operand a form reads. -/
def AluForm.operand (s : State) : AluForm → Byte
  | .reg r => s.reg r
  | .ind => memRead .data1 (s.pair .hl) s
  | .imm n => n

/-- The bytes of a form (R152, R153). -/
def AluForm.bytes (op : AluOp) : AluForm → List Byte
  | .reg r => [opByte (0x80 + 8 * codeAlu op + codeR8 r)]
  | .ind => [opByte (0x86 + 8 * codeAlu op)]
  | .imm n => [opByte (0xC6 + 8 * codeAlu op), n]

/-- What a form costs: 4 on a register, 8 with `(HL)` or an immediate. -/
def AluForm.cost : AluForm → Nat
  | .reg _ => 4
  | _ => 8

/-- The operation functions of 44_rotate_shift_bit.md R270 on numbers: the result and the carry out. -/
def rotSpec (op : RotOp) (v : Nat) (cin : Bool) : Nat × Bool :=
  match op with
  | .rlc => (v * 2 % 256 + v / 128, v.testBit 7)
  | .rrc => (v / 2 + v % 2 * 128, v.testBit 0)
  | .rl => (v * 2 % 256 + cin.toNat, v.testBit 7)
  | .rr => (v / 2 + cin.toNat * 128, v.testBit 0)
  | .sla => (v * 2 % 256, v.testBit 7)
  | .sra => (v / 2 + v / 128 * 128, v.testBit 0)
  | .swap => (v % 16 * 16 + v / 16, false)
  | .srl => (v / 2, v.testBit 0)

/-! ### Raw host access and the frame's clock -/

/-- The mapper with its RAM-enable latch set. -/
def Mapper.opened : Mapper → Mapper
  | .none => .none
  | .mbc1 m => .mbc1 { m with ramEnable := true }
  | .mbc2 m => .mbc2 { m with ramEnable := true }
  | .mbc3 m => .mbc3 { m with ramEnable := true }
  | .mbc5 m => .mbc5 { m with ramEnable := true }

/-- The state without what raw access skips: the DMA window, the mode-3 lock and the RAM-enable latch (R74, D21). -/
def unguarded (s : State) : State :=
  { s with dma := { s.dma with cyclesLeft := 0 }, cfg := { s.cfg with mode3Lock := false }, mapper := s.mapper.opened }

/-- Whether a clock that stands at `start` in a frame of 70224 cycles and runs `n` more comes to the point `p` of this frame
or of a later one; a point it already stands on is not come to (R411). -/
def Passes (p start n : Nat) : Prop := ∃ k : Nat, start < p + 70224 * k ∧ p + 70224 * k ≤ start + n

/-! ### Frames -/

/-- Every 8-bit register outside `rs` keeps its value. -/
def KeepsRegs (rs : List R8) (s t : State) : Prop := ∀ r, r ∉ rs → t.reg r = s.reg r

/-- IME and the latches keep their values (10_state.md R25 to R30). -/
def KeepsLatches (s t : State) : Prop :=
  t.cpu.ime = s.cpu.ime ∧ t.cpu.halted = s.cpu.halted ∧ t.cpu.stopped = s.cpu.stopped ∧
  t.cpu.eiPending = s.cpu.eiPending ∧ t.cpu.haltBug = s.cpu.haltBug ∧ t.cpu.crashed = s.cpu.crashed

/-- SP keeps its value. -/
def KeepsSp (s t : State) : Prop := t.cpu.sp = s.cpu.sp

/-- F keeps its value. -/
def KeepsF (s t : State) : Prop := t.cpu.f = s.cpu.f

/-- PC keeps its value. -/
def KeepsPc (s t : State) : Prop := t.cpu.pc = s.cpu.pc

/-- Nothing outside the CPU changes, and every byte of the address space reads as before, through any port. -/
def KeepsRest (s t : State) : Prop :=
  t = { s with cpu := t.cpu } ∧ ∀ port a, memRead port a t = memRead port a s

/-- The plain storage cell an address names: WRAM and its echo, VRAM, OAM, HRAM, and the cartridge RAM cell behind an open
gate (20_memory.md R84 to R90). `none` for ROM, I/O, IE, the unusable range, a closed gate and a clock register. -/
def cellOf (s : State) (a : Word) : Option (Store × Nat) :=
  match Region.of a with
  | .vram => some (.vram, vramOffset a.toNat s)
  | .wram => some (.wram, wramOffset a.toNat s)
  | .echo => some (.wram, wramOffset (a.toNat - 0x2000) s)
  | .oam => some (.oam, a.toNat - 0xFE00)
  | .hram => some (.hram, a.toNat - 0xFF80)
  | .cartRam =>
    if s.mapper.ramEnabled s.cfg.ramSize then
      match s.mapper.ramPlace s.cfg.ramSize a.toNat with
      | .cell off => some (.cartRam, off)
      | .nibble off => some (.cartRam, off)
      | _ => none
    else none
  | _ => none

/-- The 8-bit registers outside `rs`, SP, PC, IME and the latches keep their values. -/
def KeepsCpu (rs : List R8) (s t : State) : Prop :=
  KeepsRegs rs s t ∧ KeepsSp s t ∧ KeepsPc s t ∧ KeepsLatches s t

/-- Only 8-bit registers of `rs`, and perhaps F, change. -/
def OnlyRegs (rs : List R8) (s t : State) : Prop := KeepsCpu rs s t ∧ KeepsRest s t

/-- The 8-bit registers a pair is made of. -/
def pairRegs : R16 → List R8
  | .bc => [.b, .c] | .de => [.d, .e] | .hl => [.h, .l] | .sp => []

/-- The 8-bit registers POP writes. -/
def stkRegs : R16Stk → List R8
  | .bc => [.b, .c] | .de => [.d, .e] | .hl => [.h, .l] | .af => [.a]

/-- Only the pair, or SP, and perhaps F, change. -/
def OnlyPair (p : R16) (s t : State) : Prop :=
  KeepsRegs (pairRegs p) s t ∧ (p ≠ .sp → KeepsSp s t) ∧ KeepsPc s t ∧ KeepsLatches s t ∧ KeepsRest s t

/-- Only PC changes. -/
def OnlyPc (s t : State) : Prop :=
  KeepsRegs [] s t ∧ KeepsSp s t ∧ KeepsF s t ∧ KeepsLatches s t ∧ KeepsRest s t

/-- The four flags are as given, and F's low four bits are 0 (10_state.md R23). -/
def FlagsAre (z n h c : Prop) (t : State) : Prop :=
  (t.flagZ = true ↔ z) ∧ (t.flagN = true ↔ n) ∧ (t.flagH = true ↔ h) ∧ (t.flagC = true ↔ c) ∧
  t.cpu.f.extractLsb' 0 4 = 0

/-- Bytes that name no cell stored to read as before. -/
def KeepsCells (stored : List Word) (s t : State) : Prop :=
  ∀ port b, (∀ a ∈ stored, cellOf s b ≠ cellOf s a) → memRead port b t = memRead port b s

/-- Outside the CPU exactly the bus write of `v` at `a` happened; where `a` is plain storage, no other byte changed. -/
def StoresByte (a : Word) (v : Byte) (s t : State) : Prop :=
  t = { memWrite a v s with cpu := t.cpu } ∧ (cellOf s a ≠ none → KeepsCells [a] s t)

/-- Outside the CPU exactly the two bus writes of a word happened, the high byte at SP - 1 first, then the low byte at
SP - 2; SP is two lower; where both bytes are plain storage, no other byte changed (00_scope.md R10). -/
def PushesWord (w : Word) (s t : State) : Prop :=
  t.cpu.sp = s.cpu.sp - 2 ∧
  t = { memWrite (s.cpu.sp - 2) (opByte (w.toNat % 256)) (memWrite (s.cpu.sp - 1) (opByte (w.toNat / 256)) s) with
        cpu := t.cpu } ∧
  (cellOf s (s.cpu.sp - 1) ≠ none → cellOf s (s.cpu.sp - 2) ≠ none → KeepsCells [s.cpu.sp - 1, s.cpu.sp - 2] s t)

/-- The word on top of the stack: the low byte at SP, the high byte at SP + 1 (00_scope.md R10). -/
def TopOfStack (s : State) (w : Word) : Prop :=
  w.toNat = (memRead .data1 s.cpu.sp s).toNat + 256 * (memRead .data2 (s.cpu.sp + 1) s).toNat

end Sys2Proof.Machine
end

