-- ==== Sys2Proof/Certificates/Slice0/Obligations.lean ====
section
/-! DEFINITION. The statements for the provers. The words they use (frames, costs, operand numbers, the invariant) are in
Sys2Proof/Safety.lean. -/

open Sys2Proof Sys2Proof.Machine

/-- O1. Instruction words written out from the encodings decode to the instructions they stand for (R150, R151, R152, R153, R154). -/
def Obligations.DecodesWrittenWords : Prop :=
  decode [0x3E, 0x00] = .ok (.ldAn 0x00, []) ∧
  decode [0x21, 0x85, 0xFF] = .ok (.ldHLnn 0xFF85, []) ∧
  decode [0x36, 0x10] = .ok (.ldIndHLn 0x10, []) ∧
  decode [0xE0, 0x0F] = .ok (.ldhIndNA 0x0F, []) ∧
  decode [0x78] = .ok (.ldAB, []) ∧
  decode [0x08, 0x00, 0xC1] = .ok (.ldIndNnSP 0xC100, []) ∧
  decode [0xF5] = .ok (.pushAF, []) ∧
  decode [0x9C] = .ok (.sbcAH, []) ∧
  decode [0xFE, 0x3C] = .ok (.cpn 0x3C, []) ∧
  decode [0x34] = .ok (.incIndHL, []) ∧
  decode [0x39] = .ok (.addHLSP, []) ∧
  decode [0xE8, 0x02] = .ok (.addSPe 0x02, []) ∧
  decode [0xCB, 0x37] = .ok (.swapA, []) ∧
  decode [0xCB, 0x8D] = .ok (.res1L, []) ∧
  decode [0xCB, 0xDE] = .ok (.set3IndHL, []) ∧
  decode [0xC2, 0x00, 0x80] = .ok (.jpNZ 0x8000, []) ∧
  decode [0x30, 0xFD] = .ok (.jrNC 0xFD, []) ∧
  decode [0xCF] = .ok (.rst08, []) ∧
  decode [0x10, 0x00] = .ok (.stop 0x00, []) ∧
  decode [0x76] = .ok (.halt, []) ∧
  decode [0xD3] = .ok (.illegal 0xD3, [])

/-- O2. Every byte sequence of three bytes or more begins with exactly one instruction, one to three bytes long (R140, R144). -/
def Obligations.DecoderIsTotal : Prop :=
  ∀ (op b1 b2 : Byte) (rest : List Byte), ∃ (i : Instr) (n : Nat),
    decode (op :: b1 :: b2 :: rest) = .ok (i, (op :: b1 :: b2 :: rest).drop n) ∧
    i.WellFormed ∧ i.length = n ∧ 1 ≤ n ∧ n ≤ 3 ∧ (op = 0xCB → n = 2) ∧
    ∀ (c1 c2 : Byte) (j : Instr) (tail : List Byte), decode (op :: c1 :: c2 :: rest) = .ok (j, tail) → j.length = n

/-- O3. Decoding the bytes of a well-formed instruction gives that instruction back (R141, R142, R143). -/
def Obligations.DecodeOfEncode : Prop :=
  ∀ (i : Instr) (rest : List Byte), i.WellFormed → decode (encode i ++ rest) = .ok (i, rest)

/-- O4. Encoding a decoded instruction gives its bytes back (R141, R144). -/
def Obligations.EncodeOfDecode : Prop :=
  ∀ (bytes rest : List Byte) (i : Instr), decode bytes = .ok (i, rest) → i.WellFormed ∧ encode i ++ rest = bytes

/-- O5. Exactly the eleven illegal bytes decode to an illegal instruction, one byte long, and executing one crashes the machine (R160). -/
def Obligations.IllegalEncodings : Prop :=
  (∀ (op : Byte) (rest tail : List Byte) (i : Instr), decode (op :: rest) = .ok (i, tail) →
    ((∃ b, i = .illegal b) ↔
      op ∈ [0xD3#8, 0xDB, 0xDD, 0xE3, 0xE4, 0xEB, 0xEC, 0xED, 0xF4, 0xFC, 0xFD])) ∧
  (∀ (op : Byte) (rest : List Byte), op ∈ [0xD3#8, 0xDB, 0xDD, 0xE3, 0xE4, 0xEB, 0xEC, 0xED, 0xF4, 0xFC, 0xFD] →
    decode (op :: rest) = .ok (.illegal op, rest) ∧ ∀ s : State, exec (.illegal op) s = .next (s.setCrashed true)) ∧
  (∀ (op2 : Byte) (rest : List Byte), ∃ i, decode (0xCB :: op2 :: rest) = .ok (i, rest) ∧ ∀ b, i ≠ .illegal b) ∧
  decode [0xCB, 0xD3] = .ok (.set2E, [])

/-- O6. The loads into a register: from a register, an immediate, or the byte at HL (R171, R172, R173). -/
def Obligations.LoadRegisterForms : Prop :=
  (∀ (dst src : R8) (s : State),
    encode (.ldRegReg dst src) = [opByte (0x40 + 8 * codeR8 dst + codeR8 src)] ∧ Costs (.ldRegReg dst src) 4 ∧
    ∃ t, exec (.ldRegReg dst src) s = .next t ∧ t.reg dst = s.reg src ∧ OnlyRegs [dst] s t ∧ KeepsF s t) ∧
  (∀ (dst : R8) (n : Byte) (s : State),
    encode (.ldRegN dst n) = [opByte (0x06 + 8 * codeR8 dst), n] ∧ Costs (.ldRegN dst n) 8 ∧
    ∃ t, exec (.ldRegN dst n) s = .next t ∧ t.reg dst = n ∧ OnlyRegs [dst] s t ∧ KeepsF s t) ∧
  (∀ (dst : R8) (s : State),
    encode (.ldRegInd dst) = [opByte (0x46 + 8 * codeR8 dst)] ∧ Costs (.ldRegInd dst) 8 ∧
    ∃ t, exec (.ldRegInd dst) s = .next t ∧ t.reg dst = memRead .data1 (s.pair .hl) s ∧
      OnlyRegs [dst] s t ∧ KeepsF s t)

/-- O7. The stores through HL: a register or an immediate (R174, R175). -/
def Obligations.StoreRegisterForms : Prop :=
  (∀ (src : R8) (s : State),
    encode (.ldIndReg src) = [opByte (0x70 + codeR8 src)] ∧ Costs (.ldIndReg src) 8 ∧
    ∃ t, exec (.ldIndReg src) s = .next t ∧ StoresByte (s.pair .hl) (s.reg src) s t ∧ KeepsCpu [] s t ∧ KeepsF s t) ∧
  (∀ (n : Byte) (s : State),
    encode (.ldIndHLn n) = [0x36, n] ∧ Costs (.ldIndHLn n) 12 ∧
    ∃ t, exec (.ldIndHLn n) s = .next t ∧ StoresByte (s.pair .hl) n s t ∧ KeepsCpu [] s t ∧ KeepsF s t)

/-- O8. The loads of A from (BC), (DE), an absolute address and the high page (R176, R177, R180, R182, R184). -/
def Obligations.LoadAFromMemory : Prop :=
  ∀ (nn : Word) (n : Byte) (s : State),
    let loads (i : Instr) (a : Word) : Prop :=
      ∃ t, exec i s = .next t ∧ t.reg .a = memRead .data1 a s ∧ OnlyRegs [.a] s t ∧ KeepsF s t
    (encode .ldAIndBC = [0x0A] ∧ Costs .ldAIndBC 8 ∧ loads .ldAIndBC (s.pair .bc)) ∧
    (encode .ldAIndDE = [0x1A] ∧ Costs .ldAIndDE 8 ∧ loads .ldAIndDE (s.pair .de)) ∧
    (encode (.ldAIndNn nn) = 0xFA :: wordBytes nn ∧ Costs (.ldAIndNn nn) 16 ∧ loads (.ldAIndNn nn) nn) ∧
    (encode .ldhAIndC = [0xF2] ∧ Costs .ldhAIndC 8 ∧
      loads .ldhAIndC (BitVec.ofNat 16 (0xFF00 + (s.reg .c).toNat))) ∧
    (encode (.ldhAIndN n) = [0xF0, n] ∧ Costs (.ldhAIndN n) 12 ∧
      loads (.ldhAIndN n) (BitVec.ofNat 16 (0xFF00 + n.toNat)))

/-- O9. The stores of A to (BC), (DE), an absolute address and the high page (R178, R179, R181, R183, R185). -/
def Obligations.StoreAToMemory : Prop :=
  (∀ (nn : Word) (n : Byte) (s : State),
    let stores (i : Instr) (a : Word) : Prop :=
      ∃ t, exec i s = .next t ∧ StoresByte a (s.reg .a) s t ∧ KeepsCpu [] s t ∧ KeepsF s t
    (encode .ldIndBCA = [0x02] ∧ Costs .ldIndBCA 8 ∧ stores .ldIndBCA (s.pair .bc)) ∧
    (encode .ldIndDEA = [0x12] ∧ Costs .ldIndDEA 8 ∧ stores .ldIndDEA (s.pair .de)) ∧
    (encode (.ldIndNnA nn) = 0xEA :: wordBytes nn ∧ Costs (.ldIndNnA nn) 16 ∧ stores (.ldIndNnA nn) nn) ∧
    (encode .ldhIndCA = [0xE2] ∧ Costs .ldhIndCA 8 ∧
      stores .ldhIndCA (BitVec.ofNat 16 (0xFF00 + (s.reg .c).toNat))) ∧
    (encode (.ldhIndNA n) = [0xE0, n] ∧ Costs (.ldhIndNA n) 12 ∧
      stores (.ldhIndNA n) (BitVec.ofNat 16 (0xFF00 + n.toNat)))) ∧
  (∀ (s : State) (m : Mbc5), s.mapper = .mbc5 m →
    ∃ t n, exec (.ldIndNnA 0x2000) s = .next t ∧ t.mapper = .mbc5 n ∧ n.romBank.extractLsb' 0 8 = s.reg .a)

/-- O10. The loads and stores of A through HL that step HL by one (R186, R187, R188, R189). -/
def Obligations.HlStepForms : Prop :=
  ∀ s : State,
    let up : Nat := ((s.pair .hl).toNat + 1) % 65536
    let down : Nat := ((s.pair .hl).toNat + 65535) % 65536
    let loads (i : Instr) (hl : Nat) : Prop :=
      ∃ t, exec i s = .next t ∧ t.reg .a = memRead .data1 (s.pair .hl) s ∧ (t.pair .hl).toNat = hl ∧
        OnlyRegs [.a, .h, .l] s t ∧ KeepsF s t
    let stores (i : Instr) (hl : Nat) : Prop :=
      ∃ t, exec i s = .next t ∧ StoresByte (s.pair .hl) (s.reg .a) s t ∧ (t.pair .hl).toNat = hl ∧
        KeepsCpu [.h, .l] s t ∧ KeepsF s t
    (encode .ldAIndHLInc = [0x2A] ∧ Costs .ldAIndHLInc 8 ∧ loads .ldAIndHLInc up) ∧
    (encode .ldAIndHLDec = [0x3A] ∧ Costs .ldAIndHLDec 8 ∧ loads .ldAIndHLDec down) ∧
    (encode .ldIndHLIncA = [0x22] ∧ Costs .ldIndHLIncA 8 ∧ stores .ldIndHLIncA up) ∧
    (encode .ldIndHLDecA = [0x32] ∧ Costs .ldIndHLDecA 8 ∧ stores .ldIndHLDecA down)

/-- O11. LD rr,nn loads a pair or SP with its immediate (R201). -/
def Obligations.LoadPairImmediate : Prop :=
  ∀ (p : R16) (nn : Word) (s : State),
    encode (.ldPairNn p nn) = opByte (0x01 + 16 * codeR16 p) :: wordBytes nn ∧ Costs (.ldPairNn p nn) 12 ∧
    ∃ t, exec (.ldPairNn p nn) s = .next t ∧ t.pair p = nn ∧ OnlyPair p s t ∧ KeepsF s t

/-- O12. LD (nn),SP, LD SP,HL and LD HL,SP+e (R202, R203, R204). -/
def Obligations.SpTransfers : Prop :=
  (∀ (nn : Word) (s : State),
    encode (.ldIndNnSP nn) = 0x08 :: wordBytes nn ∧ Costs (.ldIndNnSP nn) 20 ∧
    ∃ t, exec (.ldIndNnSP nn) s = .next t ∧
      t = memWrite (nn + 1) (opByte (s.cpu.sp.toNat / 256)) (memWrite nn (opByte (s.cpu.sp.toNat % 256)) s) ∧
      t.cpu = s.cpu ∧ (cellOf s nn ≠ none → cellOf s (nn + 1) ≠ none → KeepsCells [nn, nn + 1] s t)) ∧
  (∀ s : State,
    encode .ldSPHL = [0xF9] ∧ Costs .ldSPHL 8 ∧
    ∃ t, exec .ldSPHL s = .next t ∧ t.cpu.sp = s.pair .hl ∧ OnlyPair .sp s t ∧ KeepsF s t) ∧
  (∀ (e : Byte) (s : State),
    encode (.ldHLSPe e) = [0xF8, e] ∧ Costs (.ldHLSPe e) 12 ∧
    ∃ t, exec (.ldHLSPe e) s = .next t ∧
      (t.pair .hl).toNat = (((s.cpu.sp.toNat : Int) + e.toInt) % 65536).toNat ∧
      FlagsAre False False (0xF < s.cpu.sp.toNat % 16 + e.toNat % 16) (0xFF < s.cpu.sp.toNat % 256 + e.toNat) t ∧
      OnlyRegs [.h, .l] s t)

/-- O13. PUSH rr stores the pair below SP, high byte first, and lowers SP by two (R205). -/
def Obligations.PushPair : Prop :=
  ∀ (p : R16Stk) (s : State),
    encode (.pushStk p) = [opByte (0xC5 + 16 * codeStk p)] ∧ Costs (.pushStk p) 16 ∧
    ∃ t, exec (.pushStk p) s = .next t ∧ PushesWord (s.stkPair p) s t ∧ KeepsRegs [] s t ∧ KeepsF s t ∧ KeepsPc s t ∧
      KeepsLatches s t ∧ (s.stkPair .af).toNat = 256 * (s.reg .a).toNat + s.cpu.f.toNat

/-- O14. POP rr loads the pair from the stack and raises SP by two; POP AF drops the low nibble of F (R206, R207). -/
def Obligations.PopPair : Prop :=
  ∀ (p : R16Stk) (s : State) (w : Word), TopOfStack s w →
    encode (.popStk p) = [opByte (0xC1 + 16 * codeStk p)] ∧ Costs (.popStk p) 12 ∧
    ∃ t, exec (.popStk p) s = .next t ∧ t.cpu.sp.toNat = (s.cpu.sp.toNat + 2) % 65536 ∧
      (p ≠ .af → t.stkPair p = w ∧ KeepsF s t) ∧
      (p = .af → (t.reg .a).toNat = w.toNat / 256 ∧
        FlagsAre (w.getLsbD 7 = true) (w.getLsbD 6 = true) (w.getLsbD 5 = true) (w.getLsbD 4 = true) t) ∧
      KeepsRegs (stkRegs p) s t ∧ KeepsPc s t ∧ KeepsLatches s t ∧ KeepsRest s t

/-- O15. ADD A,x and ADC A,x on a register, (HL) and an immediate (R216, R217, R218, R219, R220, R221). -/
def Obligations.AddAdcForms : Prop :=
  ∀ (op : AluOp) (form : AluForm) (s : State), op = .add ∨ op = .adc →
    let cin : Nat := if op = .adc ∧ s.flagC = true then 1 else 0
    let a : Nat := (s.reg .a).toNat
    let b : Nat := (form.operand s).toNat
    encode (form.instr op) = form.bytes op ∧ Costs (form.instr op) form.cost ∧
    ∃ t, exec (form.instr op) s = .next t ∧ (t.reg .a).toNat = (a + b + cin) % 256 ∧
      FlagsAre ((a + b + cin) % 256 = 0) False (0xF < a % 16 + b % 16 + cin) (0xFF < a + b + cin) t ∧
      OnlyRegs [.a] s t

/-- O16. SUB x, SBC A,x and CP x on a register, (HL) and an immediate (R222, R223, R224, R225, R226, R227, R237, R238, R239). -/
def Obligations.SubSbcCpForms : Prop :=
  ∀ (op : AluOp) (form : AluForm) (s : State), op = .sub ∨ op = .sbc ∨ op = .cp →
    let cin : Nat := if op = .sbc ∧ s.flagC = true then 1 else 0
    let a : Nat := (s.reg .a).toNat
    let b : Nat := (form.operand s).toNat
    encode (form.instr op) = form.bytes op ∧ Costs (form.instr op) form.cost ∧
    ∃ t, exec (form.instr op) s = .next t ∧
      (t.reg .a).toNat = (if op = .cp then a else (a + 512 - b - cin) % 256) ∧
      FlagsAre ((a + 512 - b - cin) % 256 = 0) True (a % 16 < b % 16 + cin) (a < b + cin) t ∧
      OnlyRegs [.a] s t

/-- O17. AND x, XOR x and OR x on a register, (HL) and an immediate (R228, R229, R230, R231, R232, R233, R234, R235, R236). -/
def Obligations.LogicForms : Prop :=
  ∀ (op : AluOp) (form : AluForm) (s : State), op = .and ∨ op = .xor ∨ op = .or →
    encode (form.instr op) = form.bytes op ∧ Costs (form.instr op) form.cost ∧
    ∃ t, exec (form.instr op) s = .next t ∧
      (∀ k < 8, (t.reg .a).getLsbD k =
        (if op = .and then (s.reg .a).getLsbD k && (form.operand s).getLsbD k
         else if op = .xor then ((s.reg .a).getLsbD k ^^ (form.operand s).getLsbD k)
         else (s.reg .a).getLsbD k || (form.operand s).getLsbD k)) ∧
      FlagsAre ((t.reg .a).toNat = 0) False (op = .and) False t ∧ OnlyRegs [.a] s t

/-- O18. INC r and DEC r (R240, R242). -/
def Obligations.IncDecRegister : Prop :=
  ∀ (r : R8) (s : State),
    let v : Nat := (s.reg r).toNat
    (encode (.incReg r) = [opByte (0x04 + 8 * codeR8 r)] ∧ Costs (.incReg r) 4 ∧
      ∃ t, exec (.incReg r) s = .next t ∧ (t.reg r).toNat = (v + 1) % 256 ∧
        FlagsAre ((v + 1) % 256 = 0) False (v % 16 = 15) (s.flagC = true) t ∧ OnlyRegs [r] s t) ∧
    (encode (.decReg r) = [opByte (0x05 + 8 * codeR8 r)] ∧ Costs (.decReg r) 4 ∧
      ∃ t, exec (.decReg r) s = .next t ∧ (t.reg r).toNat = (v + 255) % 256 ∧
        FlagsAre ((v + 255) % 256 = 0) True (v % 16 = 0) (s.flagC = true) t ∧ OnlyRegs [r] s t)

/-- O19. INC (HL) and DEC (HL): one read, then one write of the same address (R241, R243). -/
def Obligations.IncDecMemory : Prop :=
  (∀ s : State,
    let v : Nat := (memRead .data1 (s.pair .hl) s).toNat
    (encode .incIndHL = [0x34] ∧ Costs .incIndHL 12 ∧
      ∃ t, exec .incIndHL s = .next t ∧ StoresByte (s.pair .hl) (opByte ((v + 1) % 256)) s t ∧
        FlagsAre ((v + 1) % 256 = 0) False (v % 16 = 15) (s.flagC = true) t ∧ KeepsCpu [] s t) ∧
    (encode .decIndHL = [0x35] ∧ Costs .decIndHL 12 ∧
      ∃ t, exec .decIndHL s = .next t ∧ StoresByte (s.pair .hl) (opByte ((v + 255) % 256)) s t ∧
        FlagsAre ((v + 255) % 256 = 0) True (v % 16 = 0) (s.flagC = true) t ∧ KeepsCpu [] s t)) ∧
  (∀ s : State, s.pair .hl = 0xFF04 → ∃ t, exec .incIndHL s = .next t ∧ t.timer.div = 0 ∧ t.timer.divCounter = 0)

/-- O20. DAA adjusts A by the table on N, H, C and the nibbles of A (R244). -/
def Obligations.DecimalAdjust : Prop :=
  ∀ s : State,
    let a : Nat := (s.reg .a).toNat
    let low : Prop := s.flagH = true ∨ (s.flagN = false ∧ 9 < a % 16)
    let high : Prop := s.flagC = true ∨ (s.flagN = false ∧ 0x99 < a)
    encode .daa = [0x27] ∧ Costs .daa 4 ∧
    ∃ (adj r : Nat) (t : State), exec .daa s = .next t ∧
      (low → high → adj = 0x66) ∧ (low → ¬high → adj = 0x06) ∧ (¬low → high → adj = 0x60) ∧ (¬low → ¬high → adj = 0) ∧
      r = (if s.flagN then (a + 256 - adj) % 256 else (a + adj) % 256) ∧
      (t.reg .a).toNat = r ∧ FlagsAre (r = 0) (s.flagN = true) False high t ∧ OnlyRegs [.a] s t

/-- O21. CPL, SCF and CCF (R245, R246, R247). -/
def Obligations.CplScfCcf : Prop :=
  ∀ s : State,
    (encode .cpl = [0x2F] ∧ Costs .cpl 4 ∧
      ∃ t, exec .cpl s = .next t ∧ (t.reg .a).toNat = 255 - (s.reg .a).toNat ∧
        FlagsAre (s.flagZ = true) True True (s.flagC = true) t ∧ OnlyRegs [.a] s t) ∧
    (encode .scf = [0x37] ∧ Costs .scf 4 ∧
      ∃ t, exec .scf s = .next t ∧ FlagsAre (s.flagZ = true) False False True t ∧ OnlyRegs [] s t) ∧
    (encode .ccf = [0x3F] ∧ Costs .ccf 4 ∧
      ∃ t, exec .ccf s = .next t ∧ FlagsAre (s.flagZ = true) False False (s.flagC = false) t ∧ OnlyRegs [] s t)

/-- O22. ADD HL,rr adds a pair to HL; INC rr and DEC rr step a pair or SP and set no flag (R261, R262, R263). -/
def Obligations.PairArithmetic : Prop :=
  (∀ (p : R16) (s : State),
    let x : Nat := (s.pair .hl).toNat
    let y : Nat := (s.pair p).toNat
    encode (.addHLPair p) = [opByte (0x09 + 16 * codeR16 p)] ∧ Costs (.addHLPair p) 8 ∧
    ∃ t, exec (.addHLPair p) s = .next t ∧ (t.pair .hl).toNat = (x + y) % 65536 ∧
      FlagsAre (s.flagZ = true) False (0xFFF < x % 4096 + y % 4096) (0xFFFF < x + y) t ∧ OnlyRegs [.h, .l] s t) ∧
  (∀ (p : R16) (s : State),
    (encode (.incPair p) = [opByte (0x03 + 16 * codeR16 p)] ∧ Costs (.incPair p) 8 ∧
      ∃ t, exec (.incPair p) s = .next t ∧ (t.pair p).toNat = ((s.pair p).toNat + 1) % 65536 ∧
        OnlyPair p s t ∧ KeepsF s t) ∧
    (encode (.decPair p) = [opByte (0x0B + 16 * codeR16 p)] ∧ Costs (.decPair p) 8 ∧
      ∃ t, exec (.decPair p) s = .next t ∧ (t.pair p).toNat = ((s.pair p).toNat + 65535) % 65536 ∧
        OnlyPair p s t ∧ KeepsF s t))

/-- O23. readMemory and writeMemory, as the CPU would and raw: what raw access skips, stores and leaves alone (cartridge RAM: log entries 10 and 17) (R72, R73, R74, R482). -/
def Obligations.HostMemoryAccess : Prop :=
  (∀ (s : State) (a : Word) (v : Byte),
    readMemory false a s = (memRead .host a s, { s with freeCount := s.freeCount + 1 }) ∧
    readMemory true a s = (memRead .host a (unguarded s), { s with freeCount := s.freeCount + 1 }) ∧
    writeMemory false a v s = { memWrite a v s with freeCount := s.freeCount + 1 } ∧
    writeMemory true a v s = { rawWrite a v s with freeCount := s.freeCount + 1 }) ∧
  (∀ (s : State) (a : Word) (v : Byte),
    (a.toNat < 0x8000 ∨ (0xFEA0 ≤ a.toNat ∧ a.toNat < 0xFF00) → rawWrite a v s = s) ∧
    (Region.of a = .cartRam → s.cfg.ramSize = 0 → s.mapper.kind ≠ .mbc2 → rawWrite a v s = s) ∧
    (Region.of a = .cartRam → (0 < s.cfg.ramSize ∨ s.mapper.kind = .mbc2) →
      (∀ m, s.mapper = .mbc3 m → m.ramRtcSel.toNat < 8 ∨ 12 < m.ramRtcSel.toNat) →
      rawWrite a v s = { s with mem := (memWrite a v (unguarded s)).mem }) ∧
    (Region.of a = .cartRam → 0 < s.cfg.ramSize → ∀ m, s.mapper = .mbc3 m → 8 ≤ m.ramRtcSel.toNat →
      m.ramRtcSel.toNat ≤ 12 →
      let clock (r : Rtc) : List Byte := [r.seconds, r.minutes, r.hours, r.dayLow, r.dayHigh]
      ∃ r : Rtc, clock r = (clock m.rtc).set (m.ramRtcSel.toNat - 8) v ∧
        rawWrite a v s = { s with mapper := .mbc3 { m with rtc := r } }) ∧
    (Region.of a ∈ [Region.vram, .wram, .echo, .oam, .hram] →
      rawWrite a v s = { s with mem := (memWrite a v (unguarded s)).mem })) ∧
  (∀ (s : State) (v : Byte),
    rawWrite 0xFF04 v s = { s with timer := { s.timer with div := v } } ∧
    rawWrite 0xFF44 v s = { s with ppu := { s.ppu with ly := v } } ∧
    rawWrite 0xFF46 v s = { s with dma := { s.dma with reg := v } } ∧
    rawWrite 0xFF40 v s = { s with ppu := { s.ppu with lcdc := v } } ∧
    (s.cfg.cgb = true → rawWrite 0xFF69 v s = s.poke .bgPalRam s.cgb.bcps.index.toNat v ∧
      rawWrite 0xFF6B v s = s.poke .objPalRam s.cgb.ocps.index.toNat v) ∧
    (s.cfg.cgb = false → rawWrite 0xFF69 v s = s ∧ rawWrite 0xFF6B v s = s) ∧
    ∀ a : Word, (0xFF00 ≤ a.toNat ∧ a.toNat < 0xFF80) ∨ a = 0xFFFF →
      a ∉ [0xFF04#16, 0xFF40, 0xFF44, 0xFF46, 0xFF69, 0xFF6B] → rawWrite a v s = memWrite a v s)

/-- O24. ADD SP,e adds a signed displacement to SP (R264). -/
def Obligations.AddToSp : Prop :=
  ∀ (e : Byte) (s : State),
    encode (.addSPe e) = [0xE8, e] ∧ Costs (.addSPe e) 16 ∧
    ∃ t, exec (.addSPe e) s = .next t ∧
      t.cpu.sp.toNat = (((s.cpu.sp.toNat : Int) + e.toInt) % 65536).toNat ∧
      FlagsAre False False (0xF < s.cpu.sp.toNat % 16 + e.toNat % 16) (0xFF < s.cpu.sp.toNat % 256 + e.toNat) t ∧
      OnlyPair .sp s t

/-- O25. RLCA, RRCA, RLA and RRA rotate A and always clear Z (R271, R272, R273, R274). -/
def Obligations.AccumulatorRotates : Prop :=
  ∀ s : State,
    let rotates (i : Instr) (byte : Byte) (op : RotOp) : Prop :=
      encode i = [byte] ∧ Costs i 4 ∧
      ∃ t, exec i s = .next t ∧ (t.reg .a).toNat = (rotSpec op (s.reg .a).toNat s.flagC).1 ∧
        FlagsAre False False False ((rotSpec op (s.reg .a).toNat s.flagC).2 = true) t ∧ OnlyRegs [.a] s t
    rotates .rlca 0x07 .rlc ∧ rotates .rrca 0x0F .rrc ∧ rotates .rla 0x17 .rl ∧ rotates .rra 0x1F .rr

/-- O26. RLC, RRC, RL, RR, SLA, SRA, SWAP and SRL of a register (R275, R277, R279, R281, R283, R285, R287, R289). -/
def Obligations.RotatesOfRegister : Prop :=
  ∀ (op : RotOp) (r : R8) (s : State),
    let out : Nat × Bool := rotSpec op (s.reg r).toNat s.flagC
    encode (.rotReg op r) = [0xCB, opByte (8 * codeRot op + codeR8 r)] ∧ Costs (.rotReg op r) 8 ∧
    ∃ t, exec (.rotReg op r) s = .next t ∧ (t.reg r).toNat = out.1 ∧
      FlagsAre (out.1 = 0) False False (out.2 = true) t ∧ OnlyRegs [r] s t

/-- O27. RLC, RRC, RL, RR, SLA, SRA, SWAP and SRL of the byte at HL (R276, R278, R280, R282, R284, R286, R288, R290). -/
def Obligations.RotatesOfMemory : Prop :=
  ∀ (op : RotOp) (s : State),
    let out : Nat × Bool := rotSpec op (memRead .data1 (s.pair .hl) s).toNat s.flagC
    encode (.rotInd op) = [0xCB, opByte (8 * codeRot op + 6)] ∧ Costs (.rotInd op) 16 ∧
    ∃ t, exec (.rotInd op) s = .next t ∧ StoresByte (s.pair .hl) (opByte out.1) s t ∧
      FlagsAre (out.1 = 0) False False (out.2 = true) t ∧ KeepsCpu [] s t

/-- O28. BIT b,r and BIT b,(HL) test a bit and write nothing back (R291, R292). -/
def Obligations.BitTestForms : Prop :=
  ∀ (b : BitNum) (s : State),
    (∀ r : R8, encode (.bitReg b r) = [0xCB, opByte (0x40 + 8 * b.toNat + codeR8 r)] ∧ Costs (.bitReg b r) 8 ∧
      ∃ t, exec (.bitReg b r) s = .next t ∧
        FlagsAre ((s.reg r).toNat / 2 ^ b.toNat % 2 = 0) False True (s.flagC = true) t ∧ OnlyRegs [] s t) ∧
    (encode (.bitInd b) = [0xCB, opByte (0x46 + 8 * b.toNat)] ∧ Costs (.bitInd b) 12 ∧
      ∃ t, exec (.bitInd b) s = .next t ∧
        FlagsAre ((memRead .data1 (s.pair .hl) s).toNat / 2 ^ b.toNat % 2 = 0) False True (s.flagC = true) t ∧
        OnlyRegs [] s t)

/-- O29. RES b and SET b on a register and on the byte at HL (R293, R294, R295, R296). -/
def Obligations.ResSetForms : Prop :=
  ∀ (b : BitNum) (s : State),
    let put (v : Byte) (bit : Bool) (w : Byte) : Prop :=
      ∀ k < 8, w.getLsbD k = if k = b.toNat then bit else v.getLsbD k
    (∀ r : R8, encode (.resReg b r) = [0xCB, opByte (0x80 + 8 * b.toNat + codeR8 r)] ∧ Costs (.resReg b r) 8 ∧
      ∃ t, exec (.resReg b r) s = .next t ∧ put (s.reg r) false (t.reg r) ∧ OnlyRegs [r] s t ∧ KeepsF s t) ∧
    (∀ r : R8, encode (.setReg b r) = [0xCB, opByte (0xC0 + 8 * b.toNat + codeR8 r)] ∧ Costs (.setReg b r) 8 ∧
      ∃ t, exec (.setReg b r) s = .next t ∧ put (s.reg r) true (t.reg r) ∧ OnlyRegs [r] s t ∧ KeepsF s t) ∧
    (encode (.resInd b) = [0xCB, opByte (0x86 + 8 * b.toNat)] ∧ Costs (.resInd b) 16 ∧
      ∃ w t, exec (.resInd b) s = .next t ∧ put (memRead .data1 (s.pair .hl) s) false w ∧
        StoresByte (s.pair .hl) w s t ∧ KeepsCpu [] s t ∧ KeepsF s t) ∧
    (encode (.setInd b) = [0xCB, opByte (0xC6 + 8 * b.toNat)] ∧ Costs (.setInd b) 16 ∧
      ∃ w t, exec (.setInd b) s = .next t ∧ put (memRead .data1 (s.pair .hl) s) true w ∧
        StoresByte (s.pair .hl) w s t ∧ KeepsCpu [] s t ∧ KeepsF s t)

/-- O30. JP nn, JP cc,nn, JP HL, JR e and JR cc,e (R311, R312, R313, R314, R315). -/
def Obligations.Jumps : Prop :=
  (∀ (nn : Word) (s : State),
    encode (.jp nn) = 0xC3 :: wordBytes nn ∧ Costs (.jp nn) 16 ∧
    ∃ t, exec (.jp nn) s = .next t ∧ t.cpu.pc = nn ∧ OnlyPc s t) ∧
  (∀ (cc : Cond) (nn : Word) (s : State),
    encode (.jpCond cc nn) = opByte (0xC2 + 8 * codeCond cc) :: wordBytes nn ∧ CostsBranch (.jpCond cc nn) cc 12 16 ∧
    ∃ t, exec (.jpCond cc nn) s = .next t ∧ (condHolds cc s = true → t.cpu.pc = nn) ∧
      (condHolds cc s = false → t.cpu.pc = s.cpu.pc) ∧ OnlyPc s t) ∧
  (∀ s : State, encode .jpHL = [0xE9] ∧ Costs .jpHL 4 ∧
    ∃ t, exec .jpHL s = .next t ∧ t.cpu.pc = s.pair .hl ∧ OnlyPc s t) ∧
  (∀ (e : Byte) (s : State),
    encode (.jr e) = [0x18, e] ∧ Costs (.jr e) 12 ∧
    ∃ t, exec (.jr e) s = .next t ∧
      t.cpu.pc.toNat = (((s.cpu.pc.toNat : Int) + e.toInt) % 65536).toNat ∧ OnlyPc s t) ∧
  (∀ (cc : Cond) (e : Byte) (s : State),
    encode (.jrCond cc e) = [opByte (0x20 + 8 * codeCond cc), e] ∧ CostsBranch (.jrCond cc e) cc 8 12 ∧
    ∃ t, exec (.jrCond cc e) s = .next t ∧
      (condHolds cc s = true → t.cpu.pc.toNat = (((s.cpu.pc.toNat : Int) + e.toInt) % 65536).toNat) ∧
      (condHolds cc s = false → t.cpu.pc = s.cpu.pc) ∧ OnlyPc s t) ∧
  (∀ (cc : Cond) (s : State), condHolds cc s = true ↔
    (cc = .nz ∧ s.flagZ = false) ∨ (cc = .z ∧ s.flagZ = true) ∨ (cc = .nc ∧ s.flagC = false) ∨ (cc = .c ∧ s.flagC = true))

/-- O31. CALL nn, CALL cc,nn and RST t push the address after the instruction and jump (R316, R317, R321). -/
def Obligations.CallsAndRestarts : Prop :=
  (∀ (nn : Word) (s : State),
    encode (.call nn) = 0xCD :: wordBytes nn ∧ Costs (.call nn) 24 ∧
    ∃ t, exec (.call nn) s = .next t ∧ t.cpu.pc = nn ∧ PushesWord s.cpu.pc s t ∧ KeepsRegs [] s t ∧ KeepsF s t ∧
      KeepsLatches s t) ∧
  (∀ (cc : Cond) (nn : Word) (s : State),
    encode (.callCond cc nn) = opByte (0xC4 + 8 * codeCond cc) :: wordBytes nn ∧
    CostsBranch (.callCond cc nn) cc 12 24 ∧
    (condHolds cc s = true → ∃ t, exec (.callCond cc nn) s = .next t ∧ t.cpu.pc = nn ∧ PushesWord s.cpu.pc s t ∧
      KeepsRegs [] s t ∧ KeepsF s t ∧ KeepsLatches s t) ∧
    (condHolds cc s = false → exec (.callCond cc nn) s = .next s)) ∧
  (∀ (y : Fin 8) (s : State), ∃ v : RstVec, v.target.toNat = 8 * y.val ∧
    encode (.rst v) = [opByte (0xC7 + 8 * y.val)] ∧ Costs (.rst v) 16 ∧
    ∃ t, exec (.rst v) s = .next t ∧ t.cpu.pc.toNat = 8 * y.val ∧ PushesWord s.cpu.pc s t ∧ KeepsRegs [] s t ∧
      KeepsF s t ∧ KeepsLatches s t) ∧
  (∀ v : RstVec, ∃ y : Fin 8, v.target.toNat = 8 * y.val)

/-- O32. RET, RET cc and RETI pop PC; RETI sets IME at once (R318, R319, R320). -/
def Obligations.Returns : Prop :=
  ∀ (s : State) (w : Word), TopOfStack s w →
    let returns (i : Instr) (ime : Bool) : Prop :=
      ∃ t, exec i s = .next t ∧ t.cpu.pc = w ∧ t.cpu.sp.toNat = (s.cpu.sp.toNat + 2) % 65536 ∧
        t.cpu = { s.cpu with pc := t.cpu.pc, sp := t.cpu.sp, ime := ime } ∧ KeepsRest s t
    (encode .ret = [0xC9] ∧ Costs .ret 16 ∧ returns .ret s.cpu.ime) ∧
    (∀ cc : Cond, encode (.retCond cc) = [opByte (0xC0 + 8 * codeCond cc)] ∧ CostsBranch (.retCond cc) cc 8 20 ∧
      (condHolds cc s = true → returns (.retCond cc) s.cpu.ime) ∧
      (condHolds cc s = false → exec (.retCond cc) s = .next s)) ∧
    (encode .reti = [0xD9] ∧ Costs .reti 16 ∧ returns .reti true)

/-- O33. NOP, STOP, HALT, DI, EI and the illegal opcodes, as executed (R330, R331, R332, R333, R334, R336). -/
def Obligations.SystemInstructions : Prop :=
  (∀ s : State, encode .nop = [0x00] ∧ Costs .nop 4 ∧ exec .nop s = .next s) ∧
  (∀ s : State, encode .di = [0xF3] ∧ Costs .di 4 ∧
    exec .di s = .next { s with cpu := { s.cpu with ime := false, eiPending := false } }) ∧
  (∀ s : State, encode .ei = [0xFB] ∧ Costs .ei 4 ∧
    exec .ei s = .next { s with cpu := { s.cpu with eiPending := true } }) ∧
  (∀ (pad : Byte) (s : State), encode (.stop pad) = [0x10, pad] ∧ Costs (.stop pad) 4 ∧
    exec (.stop pad) s = .next { s with cpu := { s.cpu with stopped := true } }) ∧
  (∀ s : State, encode .halt = [0x76] ∧ Costs .halt 4 ∧
    let pending : Prop := ∃ k < 5, s.irq.ifReg.getLsbD k = true ∧ s.irq.ie.getLsbD k = true
    (s.cpu.ime = false → pending → exec .halt s = .next { s with cpu := { s.cpu with haltBug := true } }) ∧
    (s.cpu.ime = true ∨ ¬pending → exec .halt s = .next { s with cpu := { s.cpu with halted := true } })) ∧
  (∀ (op : Byte) (s : State), encode (.illegal op) = [op] ∧ Costs (.illegal op) 0 ∧
    exec (.illegal op) s = .next { s with cpu := { s.cpu with crashed := true } })

/-- O34. A step runs the instruction decoded at PC, with PC past it, then the EI latch, then the DMA window, the timer and the PPU (R24, R144, R365, R400, R403). -/
def Obligations.StepRunsDecodedInstruction : Prop :=
  (∀ (s : State) (i : Instr) (rest : List Byte) (t : State),
    s.cpu.crashed = false → s.cpu.stopped = false → s.cpu.halted = false → s.cpu.haltBug = false →
    (s.cpu.ime = false ∨ pendingBits s = 0) →
    decode [memRead .opcode s.cpu.pc s, memRead .operand1 (s.cpu.pc + 1) s, memRead .operand2 (s.cpu.pc + 2) s]
      = .ok (i, rest) →
    let started := s.setPc (s.cpu.pc + BitVec.ofNat 16 i.length)
    exec i started = .next t →
    let n := cycleCount i started
    let u := endStep n (consumeEi s.cpu.eiPending t)
    step s = .next u ∧ coreStep s = .next (u, n)) ∧
  (∀ (n : Nat) (s : State), 0 < n →
    endStep n s = { ppuTick n (timerTick n (dmaTick n s)) with freeCount := s.freeCount + 1 }) ∧
  (∀ s : State, endStep 0 s = { s with freeCount := s.freeCount + 1 })

/-- O35. After the HALT bug the byte at PC is used twice: PC does not move past the opcode (R10, R331, R335, R365, R400). -/
def Obligations.HaltBugRepeatsOpcode : Prop :=
  ∀ (s : State) (i : Instr) (rest : List Byte) (t : State),
    s.cpu.crashed = false → s.cpu.stopped = false → s.cpu.halted = false → s.cpu.haltBug = true →
    (s.cpu.ime = false ∨ pendingBits s = 0) →
    decode [memRead .opcode s.cpu.pc s, memRead .operand1 s.cpu.pc s, memRead .operand2 (s.cpu.pc + 1) s]
      = .ok (i, rest) →
    let started := (s.setPc (s.cpu.pc + BitVec.ofNat 16 (i.length - 1))).setHaltBug false
    exec i started = .next t →
    step s = .next (endStep (cycleCount i started) (consumeEi s.cpu.eiPending t))

/-- O36. Taking an interrupt: the lowest pending source, what is saved, cleared and entered, and the step that follows (R353, R361, R362, R366, R400). -/
def Obligations.InterruptDispatch : Prop :=
  ∀ (s : State) (i : Source), s.cpu.crashed = false → s.cpu.stopped = false → s.cpu.ime = true →
    (s.irq.ifReg.getLsbD i.index = true ∧ s.irq.ie.getLsbD i.index = true) →
    (∀ k < i.index, ¬(s.irq.ifReg.getLsbD k = true ∧ s.irq.ie.getLsbD k = true)) →
    ∃ (left : BitVec 5) (t v : State),
      (∀ k < 5, left.getLsbD k = (s.irq.ifReg.getLsbD k && decide (k ≠ i.index))) ∧
      serviceInterrupts s = (t, 20) ∧
      t = { memWrite (s.cpu.sp - 2) (opByte (s.cpu.pc.toNat % 256))
              (memWrite (s.cpu.sp - 1) (opByte (s.cpu.pc.toNat / 256)) { s with irq := { s.irq with ifReg := left } }) with
            cpu := { s.cpu with ime := false, eiPending := false, halted := false, haltBug := false, sp := s.cpu.sp - 2
                                pc := BitVec.ofNat 16 (0x40 + 8 * i.index) }
            freeCount := s.freeCount + 1 } ∧
      runInstr t = .next v ∧ step s = .next (endStep (20 + instrCycles t) v)

/-- O37. What a halted or stopped step does, and what wakes a halted CPU (R332, R363, R388, R400). -/
def Obligations.IdleStepsAndWake : Prop :=
  (∀ s : State, s.cpu.crashed = false → s.cpu.stopped = true →
    step s = .next (endStep s.cfg.idleCycles s) ∧ (endStep s.cfg.idleCycles s).cpu = s.cpu) ∧
  (∀ s : State, s.cpu.crashed = false → s.cpu.stopped = false → s.cpu.halted = true → pendingBits s = 0 →
    step s = .next (endStep s.cfg.idleCycles s) ∧ (endStep s.cfg.idleCycles s).cpu = s.cpu) ∧
  (∀ s : State, s.cpu.crashed = false → s.cpu.stopped = false → s.cpu.halted = true → pendingBits s ≠ 0 →
    s.cpu.ime = false →
    ∃ v, runInstr (s.setHalted false) = .next v ∧ step s = .next (endStep (instrCycles (s.setHalted false)) v)) ∧
  (∀ (s : State) (b : Byte), s.cpu.stopped = true →
    ((setJoypad b s).cpu.stopped = false ↔ ∃ k < 8, b.getLsbD k = true ∧ s.joypad.keys.getLsbD k = false))

/-- O38. What one executed instruction does to IME and the EI latch (R320, R333, R334, R365). -/
def Obligations.EiLatchAndIme : Prop :=
  ∀ s t : State, s.cpu.crashed = false → runInstr s = .next t →
    t.cpu.ime = (match fetchedInstr s with
      | .illegal _ => s.cpu.ime
      | .di => false
      | .reti => true
      | _ => s.cpu.ime || s.cpu.eiPending) ∧
    t.cpu.eiPending = (match fetchedInstr s with
      | .illegal _ => s.cpu.eiPending
      | .di => false
      | .ei => !s.cpu.eiPending
      | _ => false)

/-- O39. A crashed machine changes nothing and bills nothing; only initialize clears the flag (R381). -/
def Obligations.CrashedMachineIsInert : Prop :=
  (∀ s : State, s.cpu.crashed = true →
    coreStep s = .next (s, 0) ∧ step s = .next s ∧
    (∀ budget, hostStep budget s =
      .next ({ s with ppu := { s.ppu with frameReady := false } },
        { cyclesRan := 0, frameReady := s.ppu.frameReady, crashed := true })) ∧
    (∀ b, (setJoypad b s).joypad.keys = b ∧ (setJoypad b s).cpu.crashed = true) ∧
    (∀ raw a, (readMemory raw a s).2.cpu.crashed = true) ∧
    (∀ raw a v, (writeMemory raw a v s).cpu.crashed = true)) ∧
  (∀ cart boot o s, create cart boot o = .ok s → s.cpu.crashed = false)

/-- O40. A step that fetches an illegal opcode crashes the machine, with PC past the byte and no cycles billed (R336, R380). -/
def Obligations.IllegalOpcodeStep : Prop :=
  ∀ s : State, s.cpu.crashed = false → s.cpu.stopped = false → s.cpu.halted = false → s.cpu.haltBug = false →
    (s.cpu.ime = false ∨ pendingBits s = 0) →
    memRead .opcode s.cpu.pc s ∈ [0xD3#8, 0xDB, 0xDD, 0xE3, 0xE4, 0xEB, 0xEC, 0xED, 0xF4, 0xFC, 0xFD] →
    coreStep s = .next
      ({ s with cpu := { s.cpu with crashed := true, pc := s.cpu.pc + 1 }, freeCount := s.freeCount + 1 }, 0)

/-- O41. No step changes the images, the parameters, the mapper kind or the key latch, maps the boot ROM, or ends STOP (R14, R47, R83, R108, R381, R388, R454). -/
def Obligations.StepKeepsFixedParts : Prop :=
  ∀ s t : State, step s = .next t →
    t.cfg = s.cfg ∧ t.mem.rom = s.mem.rom ∧ t.mem.bootRom = s.mem.bootRom ∧ t.mapper.kind = s.mapper.kind ∧
    t.joypad.keys = s.joypad.keys ∧ (s.bootMapped = false → t.bootMapped = false) ∧
    (s.cpu.stopped = true → t.cpu.stopped = true) ∧ (s.cpu.crashed = true → t.cpu.crashed = true)

/-- O42. A write to 0xFF46 copies 160 bytes to OAM at once and opens a 640-cycle window (a source in disabled cartridge RAM: log entry 9) (R72, R105, R401). -/
def Obligations.OamDmaCopyAndWindow : Prop :=
  (∀ (v : Byte) (s : State), StoresWf s →
    let t := memWrite 0xFF46 v s
    (∀ i < 160, t.peek .oam i =
      dispatchRead false (.dma i) (BitVec.ofNat 16 (v.toNat * 256 + i)) { s with dma := { s.dma with reg := v } }) ∧
    t = { s with mem := { s.mem with oam := t.mem.oam }, dma := { reg := v, cyclesLeft := 640 } }) ∧
  (∀ (s : State) (port : ReadPort) (a : Word),
    (0 < s.dma.cyclesLeft → Region.of a ≠ .hram → memRead port a s = 0xFF) ∧
    (Region.of a = .hram → memRead port a s = s.peek .hram (a.toNat - 0xFF80)) ∧
    (s.dma.cyclesLeft = 0 → memRead port a s = dispatchRead (locked s) port a s)) ∧
  (∀ (n : Nat) (s : State), (dmaTick n s).dma.cyclesLeft = max 0 (s.dma.cyclesLeft - n) ∧
    dmaTick n s = { s with dma := (dmaTick n s).dma } ∧ (dmaTick n s).dma.reg = s.dma.reg) ∧
  (∀ (port : ReadPort) (s : State), s.dma.cyclesLeft = 0 → memRead port 0xFF46 s = s.dma.reg)

/-- O43. TimerTick: DIV, TIMA, the reload from TMA, and cycles given in parts or at once (R391, R392, R393). -/
def Obligations.TimerCounts : Prop :=
  (∀ (m n : Nat) (s : State), timerTick n (timerTick m s) = timerTick (m + n) s) ∧
  (∀ (n : Nat) (s : State), s.timer.divCounter ≤ 255 →
    let t := timerTick n s
    t.timer.divCounter ≤ 255 ∧
    256 * t.timer.div.toNat + t.timer.divCounter = (256 * s.timer.div.toNat + s.timer.divCounter + n) % 65536) ∧
  (∀ (n : Nat) (s : State),
    let t := timerTick n s
    let period : Nat :=
      if s.timer.tac.toNat % 4 = 0 then 1024 else if s.timer.tac.toNat % 4 = 1 then 16
      else if s.timer.tac.toNat % 4 = 2 then 64 else 256
    let k : Nat := (s.timer.timaCounter + n) / period
    t.timer.tma = s.timer.tma ∧ t.timer.tac = s.timer.tac ∧ t.irq.ie = s.irq.ie ∧
    (s.timer.tac.getLsbD 2 = false →
      t.timer.tima = s.timer.tima ∧ t.timer.timaCounter = s.timer.timaCounter ∧ t.irq = s.irq) ∧
    (s.timer.tac.getLsbD 2 = true →
      t.timer.timaCounter = (s.timer.timaCounter + n) % period ∧
      (s.timer.tima.toNat + k ≤ 255 → t.timer.tima.toNat = s.timer.tima.toNat + k ∧ t.irq = s.irq) ∧
      (k = 256 - s.timer.tima.toNat → t.timer.tima = s.timer.tma ∧
        t.irq.ifReg = s.irq.ifReg ||| 0b00100)))

/-- O44. With the LCD on, the PPU moves through a frame of 70224 cycles exactly, and the mode is the function of LY and the dot (R410, R411, R412). -/
def Obligations.LcdPositionAndMode : Prop :=
  (∀ (n : Nat) (s : State), s.ppu.lcdc.getLsbD 7 = true → ModeOk s → s.ppu.ly.toNat ≤ 153 → s.ppu.scanCounter ≤ 455 →
    let t := ppuTick n s
    t.ppu.ly.toNat * 456 + t.ppu.scanCounter = (s.ppu.ly.toNat * 456 + s.ppu.scanCounter + n) % (154 * 456) ∧
    t.ppu.ly.toNat ≤ 153 ∧ t.ppu.scanCounter ≤ 455 ∧ t.ppu.lcdc = s.ppu.lcdc ∧
    (144 ≤ t.ppu.ly.toNat → t.ppu.mode = .vblank) ∧
    (t.ppu.ly.toNat ≤ 143 → t.ppu.scanCounter < 80 → t.ppu.mode = .oamScan) ∧
    (t.ppu.ly.toNat ≤ 143 → 80 ≤ t.ppu.scanCounter → t.ppu.scanCounter < 252 → t.ppu.mode = .transfer) ∧
    (t.ppu.ly.toNat ≤ 143 → 252 ≤ t.ppu.scanCounter → t.ppu.mode = .hblank)) ∧
  (∀ (n : Nat) (s : State), s.ppu.lcdc.getLsbD 7 = false → ppuTick n s = s) ∧
  LcdMode.code .hblank = 0 ∧ LcdMode.code .vblank = 1 ∧ LcdMode.code .oamScan = 2 ∧ LcdMode.code .transfer = 3

/-- O45. A tick of the PPU requests V-Blank, emits a frame and requests STAT exactly when it comes to the points of the frame that do so (R412, R413, R414, R415). -/
def Obligations.FrameAndLineEvents : Prop :=
  ∀ (n : Nat) (s : State), s.ppu.lcdc.getLsbD 7 = true → ModeOk s → s.ppu.ly.toNat ≤ 153 → s.ppu.scanCounter ≤ 455 →
    let t := ppuTick n s
    let comesTo (line dot : Nat) : Prop := Passes (456 * line + dot) (456 * s.ppu.ly.toNat + s.ppu.scanCounter) n
    let enabled (k : Nat) : Prop := s.ppu.statEn.getLsbD k = true
    (t.irq.ifReg.getLsbD 0 = true ↔ s.irq.ifReg.getLsbD 0 = true ∨ comesTo 144 0) ∧
    (t.ppu.frameReady = true ↔ s.ppu.frameReady = true ∨ comesTo 144 0) ∧
    (t.irq.ifReg.getLsbD 1 = true ↔ s.irq.ifReg.getLsbD 1 = true ∨
      (enabled 0 ∧ ∃ line ≤ 143, comesTo line 252) ∨ (enabled 1 ∧ comesTo 144 0) ∨
      (enabled 2 ∧ ∃ line ≤ 143, comesTo line 0) ∨
      (enabled 3 ∧ s.ppu.lyc.toNat ≤ 153 ∧ comesTo s.ppu.lyc.toNat 0)) ∧
    (s.ppu.scanCounter + n ≤ 455 → modeAt s.ppu.ly (s.ppu.scanCounter + n) = s.ppu.mode →
      t = { s with ppu := { s.ppu with scanCounter := s.ppu.scanCounter + n } }) ∧
    (∀ k, 2 ≤ k → t.irq.ifReg.getLsbD k = s.irq.ifReg.getLsbD k) ∧ t.irq.ie = s.irq.ie

/-- O46. A line is rendered as its mode 3 ends: RenderScanline writes its 160 pixels, the priority map and the window line, nothing else (R412, R420, R423, R425, R431). -/
def Obligations.RenderWritesOneLine : Prop :=
  (∀ (ly : Nat) (s : State), ly ≤ 143 → StoresWf s →
    let t := renderScanline ly s
    (∀ x < 160, ∀ c : Rgb, (linePixel s ly (spriteOrder s ly) x).1 = c →
      t.peek .framebuffer ((ly * 160 + x) * 3) = c.red ∧ t.peek .framebuffer ((ly * 160 + x) * 3 + 1) = c.green ∧
      t.peek .framebuffer ((ly * 160 + x) * 3 + 2) = c.blue) ∧
    (∀ i, i < ly * 480 ∨ ly * 480 + 480 ≤ i → t.peek .framebuffer i = s.peek .framebuffer i) ∧
    t = { s with mem := { s.mem with framebuffer := t.mem.framebuffer }
                 ppu := { s.ppu with bgPrio := t.ppu.bgPrio, windowLine := t.ppu.windowLine } } ∧
    t.ppu.bgPrio.length = 160 ∧ (s.ppu.lcdc.getLsbD 0 = false → ∀ p ∈ t.ppu.bgPrio, p = false) ∧
    (let drawn : Prop := s.ppu.lcdc.getLsbD 5 = true ∧ s.ppu.wy.toNat ≤ ly ∧ s.ppu.wx.toNat ≤ 166 ∧
        (s.cfg.cgb = true ∨ s.ppu.lcdc.getLsbD 0 = true)
     (drawn → t.ppu.windowLine = s.ppu.windowLine + 1) ∧ (¬drawn → t.ppu.windowLine = s.ppu.windowLine))) ∧
  (∀ (n : Nat) (s : State), s.ppu.lcdc.getLsbD 7 = true → s.ppu.ly.toNat ≤ 143 → s.ppu.mode = .transfer →
    252 ≤ s.ppu.scanCounter + n → s.ppu.scanCounter + n ≤ 455 →
    let t := renderScanline s.ppu.ly.toNat { s with ppu := { s.ppu with scanCounter := s.ppu.scanCounter + n } }
    ppuTick n s = { t with
      ppu := { t.ppu with mode := .hblank }
      irq := if s.ppu.statEn.getLsbD 0 then { s.irq with ifReg := s.irq.ifReg ||| 0b00010 } else s.irq }) ∧
  (∀ (n : Nat) (s : State), s.ppu.lcdc.getLsbD 7 = true → s.ppu.ly = 153 → 456 ≤ s.ppu.scanCounter + n →
    s.ppu.scanCounter + n < 456 + 80 →
    (ppuTick n s).ppu.ly = 0 ∧ (ppuTick n s).ppu.mode = .oamScan ∧ (ppuTick n s).ppu.windowLine = 0)

/-- O47. A background or window pixel on DMG and CGB, from map, attribute and tile data to colour and priority flag (window line past 255: log entry 28) (R421, R422, R423, R424, R425, R431). -/
def Obligations.BackgroundPixelColour : Prop :=
  (∀ (s : State) (ly x : Nat), s.cfg.cgb = true ∨ s.ppu.lcdc.getLsbD 0 = true →
    let window : Prop := s.ppu.lcdc.getLsbD 5 = true ∧ s.ppu.wy.toNat ≤ ly ∧ s.ppu.wx.toNat ≤ 166 ∧ s.ppu.wx.toNat ≤ x + 7
    ∃ px py map : Nat,
      (window → px = x + 7 - s.ppu.wx.toNat ∧ py = s.ppu.windowLine ∧
        map = (if s.ppu.lcdc.getLsbD 6 then 0x1C00 else 0x1800)) ∧
      (¬window → px = (s.ppu.scx.toNat + x) % 256 ∧ py = (s.ppu.scy.toNat + ly) % 256 ∧
        map = (if s.ppu.lcdc.getLsbD 3 then 0x1C00 else 0x1800)) ∧
      (let tile : Byte := s.peek .vram (map + 32 * (py / 8) + px / 8)
       let attr : Byte := if s.cfg.cgb then s.peek .vram (0x2000 + (map + 32 * (py / 8) + px / 8)) else 0
       let row : Nat := if attr.getLsbD 6 then 7 - py % 8 else py % 8
       let bit : Nat := if attr.getLsbD 5 then px % 8 else 7 - px % 8
       let data : Nat := (if attr.getLsbD 3 then 0x2000 else 0) +
         (if s.ppu.lcdc.getLsbD 4 then 16 * tile.toNat else (0x1000 + 16 * tile.toInt).toNat) + 2 * row
       let low : Bool := (s.peek .vram data).getLsbD bit
       let high : Bool := (s.peek .vram (data + 1)).getLsbD bit
       let p := bgPixel s ly x
       p.cid.toNat = 2 * high.toNat + low.toNat ∧ p.attr = attr ∧
       bgPriority s p = (s.ppu.lcdc.getLsbD 0 && (high || low || attr.getLsbD 7)) ∧
       (s.cfg.cgb = false → ∃ shade : BitVec 2, bgColour s p = shadeRgb s.cfg shade ∧
         shade.toNat = s.ppu.bgp.toNat / 4 ^ p.cid.toNat % 4) ∧
       (s.cfg.cgb = true → ∃ colour : Word, bgColour s p = rgb15 colour ∧
         colour.toNat = (s.peek .bgPalRam (8 * (attr.toNat % 8) + 2 * p.cid.toNat)).toNat +
           256 * (s.peek .bgPalRam (8 * (attr.toNat % 8) + 2 * p.cid.toNat + 1)).toNat))) ∧
  (∀ (s : State) (ly x : Nat), s.cfg.cgb = false → s.ppu.lcdc.getLsbD 0 = false →
    (bgPixel s ly x).cid = 0 ∧ bgPriority s (bgPixel s ly x) = false ∧
    bgColour s (bgPixel s ly x) = s.cfg.shades.shade0) ∧
  (∀ cfg : Config, shadeRgb cfg 0 = cfg.shades.shade0 ∧ shadeRgb cfg 1 = cfg.shades.shade1 ∧
    shadeRgb cfg 2 = cfg.shades.shade2 ∧ shadeRgb cfg 3 = cfg.shades.shade3) ∧
  (∀ c : BitVec 5, (expand5 c).toNat = 8 * c.toNat + c.toNat / 4) ∧
  (∀ c : Word, (rgb15 c).red = expand5 (BitVec.ofNat 5 c.toNat) ∧ (rgb15 c).green = expand5 (BitVec.ofNat 5 (c.toNat / 32)) ∧
    (rgb15 c).blue = expand5 (BitVec.ofNat 5 (c.toNat / 1024)))

/-- O48. Which sprites a line chooses, their order of priority, and the colour each shows at a pixel (R426, R427, R428, R429, R430). -/
def Obligations.SpriteSelectionAndOrder : Prop :=
  (∀ (s : State) (ly : Nat), s.ppu.lcdc.getLsbD 1 = false → selectedSprites s ly = []) ∧
  (∀ (s : State) (ly : Nat), s.ppu.lcdc.getLsbD 1 = true →
    let height : Nat := if s.ppu.lcdc.getLsbD 2 then 16 else 8
    let chosen := selectedSprites s ly
    chosen.length ≤ 10 ∧ chosen.Sublist ((List.range 40).map (oamEntry s)) ∧
    (∀ o ∈ chosen, o.y.toNat ≤ ly + 16 ∧ ly + 16 < o.y.toNat + height) ∧
    (let intersects (i : Nat) : Prop := (oamEntry s i).y.toNat ≤ ly + 16 ∧ ly + 16 < (oamEntry s i).y.toNat + height
     ∃ picks : List Nat, chosen = picks.map (oamEntry s) ∧ picks.Pairwise (· < ·) ∧ (∀ i ∈ picks, i < 40 ∧ intersects i) ∧
       ∀ i < 40, intersects i → i ∉ picks → picks.length = 10 ∧ ∀ j ∈ picks, j < i) ∧
    (chosen.length < 10 → ∀ i < 40, (oamEntry s i).y.toNat ≤ ly + 16 → ly + 16 < (oamEntry s i).y.toNat + height →
      oamEntry s i ∈ chosen) ∧
    (s.cfg.cgb = true → spriteOrder s ly = chosen) ∧
    (s.cfg.cgb = false → (spriteOrder s ly).Perm chosen ∧ (spriteOrder s ly).Pairwise (fun o p => o.x.toNat ≤ p.x.toNat) ∧
      ∀ v : Byte, (spriteOrder s ly).filter (fun o => o.x == v) = chosen.filter (fun o => o.x == v))) ∧
  (∀ (s : State) (ly x : Nat) (before after : List Sprite) (o : Sprite) (c : Rgb),
    (∀ p ∈ before, spriteShows s ly x (bgPriority s (bgPixel s ly x)) p = none) →
    spriteShows s ly x (bgPriority s (bgPixel s ly x)) o = some c →
    (linePixel s ly (before ++ o :: after) x).1 = c ∧
    (linePixel s ly before x).1 = bgColour s (bgPixel s ly x)) ∧
  (∀ (s : State) (ly x : Nat) (o : Sprite), o.attr.getLsbD 7 = true → spriteShows s ly x true o = none) ∧
  (∀ (s : State) (ly x : Nat) (prio : Bool) (o : Sprite),
    let height : Nat := if s.ppu.lcdc.getLsbD 2 then 16 else 8
    (x + 8 < o.x.toNat ∨ o.x.toNat ≤ x → spriteShows s ly x prio o = none) ∧
    (o.x.toNat ≤ x + 8 → x < o.x.toNat → o.y.toNat ≤ ly + 16 → ly + 16 < o.y.toNat + height →
      let row : Nat := if o.attr.getLsbD 6 then o.y.toNat + height - 1 - (ly + 16) else ly + 16 - o.y.toNat
      let bit : Nat := if o.attr.getLsbD 5 then x + 8 - o.x.toNat else o.x.toNat - 1 - x
      let tile : Nat := if s.ppu.lcdc.getLsbD 2 then o.tile.toNat / 2 * 2 else o.tile.toNat
      let data : Nat := (if s.cfg.cgb && o.attr.getLsbD 3 then 0x2000 else 0) + 16 * tile + 2 * row
      let cid : Nat := 2 * ((s.peek .vram (data + 1)).getLsbD bit).toNat + ((s.peek .vram data).getLsbD bit).toNat
      (cid = 0 ∨ (o.attr.getLsbD 7 = true ∧ prio = true) → spriteShows s ly x prio o = none) ∧
      (cid ≠ 0 → o.attr.getLsbD 7 = false ∨ prio = false →
        (s.cfg.cgb = false → ∃ shade : BitVec 2, spriteShows s ly x prio o = some (shadeRgb s.cfg shade) ∧
          shade.toNat = (if o.attr.getLsbD 4 then s.ppu.obp1 else s.ppu.obp0).toNat / 4 ^ cid % 4) ∧
        (s.cfg.cgb = true → ∃ colour : Word, spriteShows s ly x prio o = some (rgb15 colour) ∧
          colour.toNat = (s.peek .objPalRam (8 * (o.attr.toNat % 8) + 2 * cid)).toNat +
            256 * (s.peek .objPalRam (8 * (o.attr.toNat % 8) + 2 * cid + 1)).toNat))))

/-- O49. The cell each plain address names; a read after a write gives the byte, through the echo too, and leaves every other cell alone (R79, R84, R85, R86, R87, R88, R90, R91, R125). -/
def Obligations.ReadAfterWrite : Prop :=
  (∀ (s : State) (a : Word) (v : Byte) (port : ReadPort), StoresWf s → cellOf s a ≠ none →
    (s.dma.cyclesLeft = 0 ∨ Region.of a = .hram) → (locked s = true → Region.of a ≠ .vram ∧ Region.of a ≠ .oam) →
    (¬(Region.of a = .cartRam ∧ s.mapper.kind = .mbc2) → memRead port a (memWrite a v s) = v) ∧
    (Region.of a = .cartRam ∧ s.mapper.kind = .mbc2 → memRead port a (memWrite a v s) = 0xF0 ||| (v &&& 0x0F))) ∧
  (∀ (s : State) (a : Word),
    (0x8000 ≤ a.toNat → a.toNat < 0xA000 →
      cellOf s a = some (.vram, (if s.cfg.cgb then s.cgb.vbk.toNat else 0) * 0x2000 + (a.toNat - 0x8000))) ∧
    (0xC000 ≤ a.toNat → a.toNat < 0xD000 → cellOf s a = some (.wram, a.toNat - 0xC000)) ∧
    (0xD000 ≤ a.toNat → a.toNat < 0xE000 →
      cellOf s a = some (.wram, (if s.cfg.cgb then max 1 s.cgb.svbk.toNat else 1) * 0x1000 + (a.toNat - 0xD000))) ∧
    (0xFE00 ≤ a.toNat → a.toNat < 0xFEA0 → cellOf s a = some (.oam, a.toNat - 0xFE00)) ∧
    (0xFF80 ≤ a.toNat → a.toNat < 0xFFFF → cellOf s a = some (.hram, a.toNat - 0xFF80))) ∧
  (∀ (s : State) (a : Word) (port : ReadPort) (k : Store) (offset : Nat), cellOf s a = some (k, offset) →
    (s.dma.cyclesLeft = 0 ∨ Region.of a = .hram) → (locked s = true → Region.of a ≠ .vram ∧ Region.of a ≠ .oam) →
    ¬(Region.of a = .cartRam ∧ s.mapper.kind = .mbc2) → memRead port a s = s.peek k offset) ∧
  (∀ (s : State) (a : Word) (v : Byte), cellOf s a ≠ none → KeepsCells [a] s (memWrite a v s)) ∧
  (∀ (s : State) (a : Word), 0xE000 ≤ a.toNat → a.toNat < 0xFE00 →
    cellOf s a = cellOf s (a - 0x2000) ∧ cellOf s a ≠ none) ∧
  (∀ (s : State) (a : Word) (v : Byte) (port : ReadPort), locked s = true → Region.of a = .vram ∨ Region.of a = .oam →
    memRead port a s = 0xFF ∧ memWrite a v s = s) ∧
  (∀ (s : State) (v : Byte) (port : ReadPort), s.dma.cyclesLeft = 0 →
    memRead port 0xFFFF s = s.irq.ie ∧ memWrite 0xFFFF v s = { s with irq := { s.irq with ie := v } })

/-- O50. The timer registers and IF as a program reads and writes them (R96, R97). -/
def Obligations.TimerAndIfPorts : Prop :=
  (∀ (s : State) (port : ReadPort), s.dma.cyclesLeft = 0 →
    memRead port 0xFF04 s = s.timer.div ∧ memRead port 0xFF05 s = s.timer.tima ∧ memRead port 0xFF06 s = s.timer.tma ∧
    memRead port 0xFF07 s = opByte (0xF8 + s.timer.tac.toNat) ∧ memRead port 0xFF0F s = opByte (0xE0 + s.irq.ifReg.toNat)) ∧
  (∀ (s : State) (v : Byte),
    memWrite 0xFF04 v s = { s with timer := { s.timer with div := 0, divCounter := 0 } } ∧
    memWrite 0xFF05 v s = { s with timer := { s.timer with tima := v } } ∧
    memWrite 0xFF06 v s = { s with timer := { s.timer with tma := v } } ∧
    memWrite 0xFF07 v s = { s with timer := { s.timer with tac := BitVec.ofNat 3 v.toNat } } ∧
    memWrite 0xFF0F v s = { s with irq := { s.irq with ifReg := BitVec.ofNat 5 v.toNat } })

/-- O51. LCDC, STAT, LY, LYC and the plain PPU registers as a program reads and writes them (R98, R99, R101). -/
def Obligations.LcdPorts : Prop :=
  (∀ (s : State) (v : Byte),
    (s.ppu.lcdc.getLsbD 7 = true → v.getLsbD 7 = false → memWrite 0xFF40 v s =
      { s with ppu := { s.ppu with lcdc := v, ly := 0, scanCounter := 0, mode := .hblank, windowLine := 0 } }) ∧
    (s.ppu.lcdc.getLsbD 7 = false → v.getLsbD 7 = true → memWrite 0xFF40 v s =
      { s with ppu := { s.ppu with lcdc := v, ly := 0, scanCounter := 0, mode := .oamScan, windowLine := 0 } }) ∧
    (s.ppu.lcdc.getLsbD 7 = v.getLsbD 7 → memWrite 0xFF40 v s = { s with ppu := { s.ppu with lcdc := v } }) ∧
    memWrite 0xFF41 v s = { s with ppu := { s.ppu with statEn := BitVec.ofNat 4 (v.toNat / 8) } } ∧
    memWrite 0xFF42 v s = { s with ppu := { s.ppu with scy := v } } ∧
    memWrite 0xFF43 v s = { s with ppu := { s.ppu with scx := v } } ∧ memWrite 0xFF44 v s = s ∧
    memWrite 0xFF45 v s = { s with ppu := { s.ppu with lyc := v } } ∧
    memWrite 0xFF47 v s = { s with ppu := { s.ppu with bgp := v } } ∧
    memWrite 0xFF48 v s = { s with ppu := { s.ppu with obp0 := v } } ∧
    memWrite 0xFF49 v s = { s with ppu := { s.ppu with obp1 := v } } ∧
    memWrite 0xFF4A v s = { s with ppu := { s.ppu with wy := v } } ∧
    memWrite 0xFF4B v s = { s with ppu := { s.ppu with wx := v } }) ∧
  (∀ (s : State) (port : ReadPort), s.dma.cyclesLeft = 0 →
    memRead port 0xFF40 s = s.ppu.lcdc ∧
    (memRead port 0xFF41 s).toNat =
      0x80 + 8 * s.ppu.statEn.toNat + (if s.ppu.ly = s.ppu.lyc then 4 else 0) + s.ppu.mode.code.toNat ∧
    memRead port 0xFF42 s = s.ppu.scy ∧ memRead port 0xFF43 s = s.ppu.scx ∧ memRead port 0xFF44 s = s.ppu.ly ∧
    memRead port 0xFF45 s = s.ppu.lyc ∧ memRead port 0xFF47 s = s.ppu.bgp ∧ memRead port 0xFF48 s = s.ppu.obp0 ∧
    memRead port 0xFF49 s = s.ppu.obp1 ∧ memRead port 0xFF4A s = s.ppu.wy ∧ memRead port 0xFF4B s = s.ppu.wx)

/-- O52. JOYP, the boot-ROM overlay and its switch, the CGB bank and palette ports, and the addresses with no register behind them (log entry 3) (R41, R89, R100, R102, R103, R104, R106, R107, R108, R131). -/
def Obligations.JoypadBootAndCgbPorts : Prop :=
  (∀ (s : State) (v : Byte), memWrite 0xFF00 v s = { s with joypad := { s.joypad with sel := BitVec.ofNat 2 (v.toNat / 16) } }) ∧
  (∀ (s : State) (port : ReadPort), s.dma.cyclesLeft = 0 →
    let key (k : Nat) : Bool := s.joypad.keys.getLsbD k
    let low (dirKey button : Nat) : Bool :=
      !((!s.joypad.sel.getLsbD 0 && key dirKey) || (!s.joypad.sel.getLsbD 1 && key button))
    (memRead port 0xFF00 s).toNat = 0xC0 + 16 * s.joypad.sel.toNat + 8 * (low 3 7).toNat + 4 * (low 0 6).toNat +
      2 * (low 2 5).toNat + (low 1 4).toNat) ∧
  (∀ (s : State) (v : Byte) (port : ReadPort), (v ≠ 0 → memWrite 0xFF50 v s = { s with bootMapped := false }) ∧
    memWrite 0xFF50 0 s = s ∧ (s.dma.cyclesLeft = 0 → memRead port 0xFF50 s = 0xFF)) ∧
  (∀ (s : State) (v : Byte) (port : ReadPort), s.cfg.cgb = true →
    memWrite 0xFF4F v s = { s with cgb := { s.cgb with vbk := BitVec.ofNat 1 v.toNat } } ∧
    memWrite 0xFF70 v s = { s with cgb := { s.cgb with svbk := BitVec.ofNat 3 v.toNat } } ∧
    wramBank s = (if s.cgb.svbk.toNat = 0 then 1 else s.cgb.svbk.toNat) ∧
    memWrite 0xFF68 v s = { s with cgb := { s.cgb with bcps := ⟨v.getLsbD 7, BitVec.ofNat 6 v.toNat⟩ } } ∧
    memWrite 0xFF6A v s = { s with cgb := { s.cgb with ocps := ⟨v.getLsbD 7, BitVec.ofNat 6 v.toNat⟩ } } ∧
    memWrite 0xFF69 v s = { s.poke .bgPalRam s.cgb.bcps.index.toNat v with
      cgb := { s.cgb with bcps := ⟨s.cgb.bcps.auto,
        BitVec.ofNat 6 (s.cgb.bcps.index.toNat + s.cgb.bcps.auto.toNat)⟩ } } ∧
    memWrite 0xFF6B v s = { s.poke .objPalRam s.cgb.ocps.index.toNat v with
      cgb := { s.cgb with ocps := ⟨s.cgb.ocps.auto,
        BitVec.ofNat 6 (s.cgb.ocps.index.toNat + s.cgb.ocps.auto.toNat)⟩ } } ∧
    (s.dma.cyclesLeft = 0 →
      memRead port 0xFF4F s = opByte (0xFE + s.cgb.vbk.toNat) ∧ memRead port 0xFF70 s = opByte (0xF8 + s.cgb.svbk.toNat) ∧
      memRead port 0xFF68 s = opByte (0x40 + 128 * s.cgb.bcps.auto.toNat + s.cgb.bcps.index.toNat) ∧
      memRead port 0xFF6A s = opByte (0x40 + 128 * s.cgb.ocps.auto.toNat + s.cgb.ocps.index.toNat) ∧
      memRead port 0xFF69 s = s.peek .bgPalRam s.cgb.bcps.index.toNat ∧
      memRead port 0xFF6B s = s.peek .objPalRam s.cgb.ocps.index.toNat)) ∧
  (∀ (s : State) (v : Byte) (port : ReadPort) (a : Word), s.cfg.cgb = false →
    a ∈ [0xFF4F#16, 0xFF68, 0xFF69, 0xFF6A, 0xFF6B, 0xFF70] →
    memWrite a v s = s ∧ memRead port a s = 0xFF) ∧
  (∀ (s : State) (v : Byte) (port : ReadPort) (a : Word),
    (let n := a.toNat
     (0xFEA0 ≤ n ∧ n ≤ 0xFEFF) ∨ (0xFF01 ≤ n ∧ n ≤ 0xFF03) ∨ (0xFF08 ≤ n ∧ n ≤ 0xFF0E) ∨ (0xFF10 ≤ n ∧ n ≤ 0xFF3F) ∨ (0xFF4C ≤ n ∧ n ≤ 0xFF4E) ∨
     (0xFF51 ≤ n ∧ n ≤ 0xFF67) ∨ (0xFF6C ≤ n ∧ n ≤ 0xFF6F) ∨ (0xFF71 ≤ n ∧ n ≤ 0xFF7F)) →
    memWrite a v s = s ∧ (s.dma.cyclesLeft = 0 → memRead port a s = Config.freeByte s.freeCount port a)) ∧
  (∀ (s : State) (v : Byte) (port : ReadPort) (a : Word), s.bootMapped = true → a.toNat < 0x4000 →
    let overlaid : Prop :=
      a.toNat < 0x100 ∨ (s.cfg.cgb = true ∧ 0x100 < s.cfg.bootRomSize ∧ 0x200 ≤ a.toNat ∧ a.toNat < 0x900)
    memWrite a v s = { s with mapper := s.mapper.control a.toNat v } ∧
    (s.dma.cyclesLeft = 0 → overlaid → memRead port a s = s.peek .bootRom a.toNat) ∧
    (s.dma.cyclesLeft = 0 → ¬overlaid → memRead port a s = s.peek .rom (a.toNat % s.cfg.romSize)))

/-- O53. What a control write does to each mapper, and which cartridge byte a ROM or RAM address names (R81, R82, R83, R85, R122, R123, R124, R125, R126, R127, R128, R129). -/
def Obligations.MapperControlAndBanks : Prop :=
  (∀ (s : State) (a : Word) (v : Byte), a.toNat < 0x8000 → memWrite a v s = { s with mapper := s.mapper.control a.toNat v }) ∧
  (∀ (a : Nat) (v : Byte), a < 0x8000 →
    let on : Bool := decide (v.toNat % 16 = 0xA)
    let low (n : Nat) : Nat := if v.toNat % n = 0 then 1 else v.toNat % n
    Mapper.control a v .none = .none ∧
    (∀ m : Mbc1, Mapper.control a v (.mbc1 m) = .mbc1
      (if a < 0x2000 then { m with ramEnable := on } else if a < 0x4000 then { m with bank1 := BitVec.ofNat 5 (low 32) }
       else if a < 0x6000 then { m with bank2 := BitVec.ofNat 2 v.toNat } else { m with mode := BitVec.ofNat 1 v.toNat })) ∧
    (∀ m : Mbc2, Mapper.control a v (.mbc2 m) = .mbc2
      (if 0x4000 ≤ a then m else if a.testBit 8 then { m with romBank := BitVec.ofNat 4 (low 16) }
       else { m with ramEnable := on })) ∧
    (∀ m : Mbc3, Mapper.control a v (.mbc3 m) = .mbc3
      (if a < 0x2000 then { m with ramEnable := on } else if a < 0x4000 then { m with romBank := BitVec.ofNat 7 (low 128) }
       else if a < 0x6000 then { m with ramRtcSel := BitVec.ofNat 4 v.toNat } else { m with latchPrev := v })) ∧
    (∀ m : Mbc5, Mapper.control a v (.mbc5 m) = .mbc5
      (if a < 0x2000 then { m with ramEnable := on }
       else if a < 0x3000 then { m with romBank := BitVec.ofNat 9 (m.romBank.toNat / 256 * 256 + v.toNat) }
       else if a < 0x4000 then { m with romBank := BitVec.ofNat 9 (v.toNat % 2 * 256 + m.romBank.toNat % 256) }
       else if a < 0x6000 then { m with ramBank := BitVec.ofNat 4 v.toNat } else m))) ∧
  (∀ (s : State) (a : Word) (port : ReadPort), s.dma.cyclesLeft = 0 → s.bootMapped = false → 0 < s.cfg.romSize →
    let bank : Nat := match s.mapper with
      | .none => 1
      | .mbc1 m => if m.mode = 0 then m.bank2.toNat * 32 + m.bank1.toNat else m.bank1.toNat
      | .mbc2 m => m.romBank.toNat
      | .mbc3 m => m.romBank.toNat
      | .mbc5 m => m.romBank.toNat
    (a.toNat < 0x4000 → memRead port a s = s.peek .rom (a.toNat % s.cfg.romSize)) ∧
    (0x4000 ≤ a.toNat → a.toNat < 0x8000 →
      memRead port a s = s.peek .rom ((bank * 0x4000 + (a.toNat - 0x4000)) % s.cfg.romSize))) ∧
  (∀ (s : State) (a : Word) (v : Byte) (port : ReadPort), Region.of a = .cartRam → s.dma.cyclesLeft = 0 →
    let offset : Nat := a.toNat - 0xA000
    let gate : Bool := match s.mapper with
      | .none => decide (0 < s.cfg.ramSize)
      | .mbc1 m => m.ramEnable
      | .mbc2 m => m.ramEnable
      | .mbc3 m => m.ramEnable
      | .mbc5 m => m.ramEnable
    (gate = false → memRead port a s = 0xFF ∧ memWrite a v s = s) ∧
    (gate = true → s.cfg.ramSize = 0 → (s.mapper.kind = .mbc1 ∨ s.mapper.kind = .mbc5 ∨
      ∃ m, s.mapper = .mbc3 m ∧ m.ramRtcSel.toNat ≤ 3) →
      memRead port a s = 0xFF ∧ memWrite a v s = s) ∧
    (gate = true → 0 < s.cfg.ramSize →
      (s.mapper = .none → cellOf s a = some (.cartRam, offset % s.cfg.ramSize)) ∧
      (∀ m, s.mapper = .mbc1 m →
        cellOf s a = some (.cartRam, ((if m.mode = 1 then m.bank2.toNat else 0) * 0x2000 + offset) % s.cfg.ramSize)) ∧
      (∀ m, s.mapper = .mbc3 m → m.ramRtcSel.toNat ≤ 3 →
        cellOf s a = some (.cartRam, (m.ramRtcSel.toNat * 0x2000 + offset) % s.cfg.ramSize)) ∧
      (∀ m, s.mapper = .mbc5 m →
        cellOf s a = some (.cartRam, (m.ramBank.toNat * 0x2000 + offset) % s.cfg.ramSize))) ∧
    (gate = true → ∀ m, s.mapper = .mbc2 m → cellOf s a = some (.cartRam, offset % 512)) ∧
    (gate = true → ∀ m, s.mapper = .mbc3 m → 4 ≤ m.ramRtcSel.toNat →
      (m.ramRtcSel.toNat < 8 ∨ 12 < m.ramRtcSel.toNat → memRead port a s = 0xFF ∧ memWrite a v s = s) ∧
      (8 ≤ m.ramRtcSel.toNat → m.ramRtcSel.toNat ≤ 12 →
        memRead port a s = [m.rtc.seconds, m.rtc.minutes, m.rtc.hours, m.rtc.dayLow, m.rtc.dayHigh].getD
          (m.ramRtcSel.toNat - 8) 0 ∧
        memRead port a (memWrite a v s) = v)))

/-- O54. What initialize makes and the values reset leaves (with the model's choices of log entries 1, 24, 26 and 27) (R44, R45, R47, R48, R120, R382, R450, R451, R453). -/
def Obligations.CreatedMachine : Prop :=
  (let kinds : List (MapperKind × List Byte) :=
    [(.none, [0x00, 0x08, 0x09]), (.mbc1, [0x01, 0x02, 0x03]), (.mbc2, [0x05, 0x06]), (.mbc3, [0x0F, 0x10, 0x11, 0x12, 0x13]),
      (.mbc5, [0x19, 0x1A, 0x1B, 0x1C, 0x1D, 0x1E])]
   (∀ cart boot o, (∃ e, create cart boot o = .error e) ↔ ¬∃ v, cart[0x147]? = some v ∧ ∃ row ∈ kinds, v ∈ row.2) ∧
   (∀ cart boot o s, create cart boot o = .ok s →
    (∃ v, cart[0x147]? = some v ∧ ∃ row ∈ kinds, v ∈ row.2 ∧ s.mapper.kind = row.1) ∧ s.mapper = .reset s.mapper.kind ∧
    (∀ i v, cart[i]? = some v → s.peek .rom i = v) ∧
    (∀ bytes i v, boot = some bytes → bytes[i]? = some v → s.peek .bootRom i = v) ∧
    (∀ bytes i v, o.savedRam = some bytes → bytes[i]? = some v → s.peek .cartRam i = v) ∧
    (o.savedRam = none → ∀ i, s.peek .cartRam i = 0x00) ∧
    s.bootMapped = (o.enableBootRom && boot.isSome) ∧
    s.cfg = { cgb := o.cgb, romSize := cart.length, ramSize := o.ramSize, bootRomSize := (boot.getD []).length
              mode3Lock := o.mode3Lock, idleCycles := o.idleCycles, shades := o.shades, cycles := o.cycles })) ∧
  (Mapper.reset .none = .none ∧ Mapper.reset .mbc1 = .mbc1 { ramEnable := false, bank1 := 1, bank2 := 0, mode := 0 } ∧
    Mapper.reset .mbc2 = .mbc2 { ramEnable := false, romBank := 1 } ∧
    Mapper.reset .mbc3 = .mbc3 { ramEnable := false, romBank := 1, ramRtcSel := 0, rtc := ⟨0, 0, 0, 0, 0⟩, latchPrev := 0xFF } ∧
    Mapper.reset .mbc5 = .mbc5 { ramEnable := false, romBank := 1, ramBank := 0 }) ∧
  (∀ cart boot cgb s, create cart boot (.default cgb) = .ok s →
    (s.reg .a).toNat = (if cgb then 0x11 else 0x01) ∧ s.cpu.f.toNat = (if cgb then 0x80 else 0xB0) ∧ s.reg .b = 0 ∧
    (s.reg .c).toNat = (if cgb then 0x00 else 0x13) ∧ (s.reg .d).toNat = (if cgb then 0xFF else 0x00) ∧
    (s.reg .e).toNat = (if cgb then 0x56 else 0xD8) ∧ (s.reg .h).toNat = (if cgb then 0x00 else 0x01) ∧
    (s.reg .l).toNat = (if cgb then 0x0D else 0x4D) ∧ s.cpu.sp = 0xFFFE ∧ s.cpu.pc = 0x0100 ∧
    s.cpu.ime = false ∧ s.cpu.halted = false ∧ s.cpu.stopped = false ∧ s.cpu.eiPending = false ∧ s.cpu.haltBug = false ∧
    s.cpu.crashed = false ∧ s.irq = ⟨1, 0⟩ ∧
    s.timer = { div := 0xAB, tima := 0, tma := 0, tac := 0, divCounter := 0, timaCounter := 0 } ∧
    s.joypad = ⟨0, 0⟩ ∧ s.dma = ⟨0xFF, 0⟩ ∧ s.ppu.lcdc = 0x91 ∧ s.ppu.statEn = 0 ∧ s.ppu.scy = 0 ∧ s.ppu.scx = 0 ∧
    s.ppu.ly = 0 ∧ s.ppu.lyc = 0 ∧ s.ppu.bgp = 0xFC ∧ s.ppu.obp0 = 0xFF ∧ s.ppu.obp1 = 0xFF ∧ s.ppu.wy = 0 ∧ s.ppu.wx = 0 ∧
    s.ppu.scanCounter = 0 ∧ s.ppu.mode = .oamScan ∧ s.ppu.windowLine = 0 ∧ s.ppu.frameReady = false ∧
    s.bootMapped = false ∧
    (∀ i, s.peek .vram i = 0x00 ∧ s.peek .wram i = 0x00 ∧ s.peek .oam i = 0x00 ∧ s.peek .hram i = 0x00 ∧
      s.peek .framebuffer i = 0xFF) ∧
    (cgb = true → s.cgb = ⟨0, 0, ⟨false, 0⟩, ⟨false, 0⟩⟩ ∧
      ∀ i, s.peek .bgPalRam i = 0xFF ∧ s.peek .objPalRam i = 0xFF)) ∧
  (∀ (cart bytes : List Byte) (o : CreateOptions) (s : State), create cart (some bytes) { o with enableBootRom := true } = .ok s →
    s.cpu.pc = 0 ∧ s.cpu.sp = 0 ∧ (∀ r, s.reg r = 0) ∧ s.cpu.f = 0 ∧ s.ppu.lcdc = 0 ∧ s.ppu.mode = .hblank ∧
    s.bootMapped = true ∧ s.irq = ⟨0, 0⟩ ∧ (∀ i < 64, s.peek .bgPalRam i = 0x00 ∧ s.peek .objPalRam i = 0x00)) ∧
  State.reset = .ofProfile .default .none false ⟨[], [], []⟩ .postBootDmg

/-- O55. The invariant holds right after reset (R48, R403). -/
def Obligations.ResetMeetsInvariant : Prop :=
  Inv State.reset

/-- O56. Every step keeps the step invariants of R403 and the canonical form of every store (R23, R34, R42, R403, R410, R411). -/
def Obligations.StepKeepsInvariant : Prop :=
  ∀ s t : State, Inv s → step s = .next t → Inv t

/-- O57. A step bills 4 to 44 cycles with the default table, or 0 when the machine is crashed or crashes (R400, R470, R472). -/
def Obligations.StepCycleBounds : Prop :=
  ∀ s : State, s.cfg.cycles = [] → s.cfg.idleCycles = 4 →
    ∃ t n, coreStep s = .next (t, n) ∧ n % 4 = 0 ∧ n ≤ 44 ∧ (4 ≤ n ∨ t.cpu.crashed = true)

/-- O58. What an instruction does to registers and memory does not depend on the cycle table (R471). -/
def Obligations.CycleTableIsInvisibleToInstructions : Prop :=
  ∀ (i : Instr) (s t : State) (table : List CycleEntry) (idle : Nat), exec i s = .next t →
    exec i { s with cfg := { s.cfg with cycles := table, idleCycles := idle } } =
      .next { t with cfg := { t.cfg with cycles := table, idleCycles := idle } }

/-- O59. setJoypad stores the latch; a press requests the Joypad interrupt and ends STOP (R364). -/
def Obligations.JoypadPress : Prop :=
  ∀ (b : Byte) (s : State),
    let pressed : Prop := ∃ k < 8, b.getLsbD k = true ∧ s.joypad.keys.getLsbD k = false
    (pressed → setJoypad b s = { s with
      joypad := { s.joypad with keys := b }
      irq := { s.irq with ifReg := s.irq.ifReg ||| 0b10000 }
      cpu := { s.cpu with stopped := false } }) ∧
    (¬pressed → setJoypad b s = { s with joypad := { s.joypad with keys := b } })

/-- O60. step(cycleBudget) ends by budget, frame or crash, and overruns the budget by less than one step (R402, R471, R472). -/
def Obligations.HostStepBudget : Prop :=
  (∀ s : State, hostStep 0 s = .next ({ s with ppu := { s.ppu with frameReady := false } },
    { cyclesRan := 0, frameReady := s.ppu.frameReady, crashed := s.cpu.crashed })) ∧
  (∀ (s t : State) (n : Nat), s.cpu.crashed = false → coreStep s = .next (t, n) →
    hostStep 1 s = .next ({ t with ppu := { t.ppu with frameReady := false } },
      { cyclesRan := n, frameReady := t.ppu.frameReady, crashed := t.cpu.crashed })) ∧
  (∀ (b : Nat) (s : State), s.cfg.CyclesOk →
    ∃ t r, hostStep b s = .next (t, r) ∧ t.ppu.frameReady = false ∧ r.crashed = t.cpu.crashed ∧
      (r.crashed = true ∨ r.frameReady = true ∨ b ≤ r.cyclesRan) ∧
      (s.cfg.cycles = [] → s.cfg.idleCycles = 4 → r.cyclesRan ≤ b + 43)) ∧
  (∀ s : State, hostStepDefault s = hostStep 70224 s)
end

