-- ==== Sys2Proof/Laws/State.lean ====
section
/-! SUPPORT. One lemma for each field after each update of State, so that no proof unfolds a record update. -/

namespace Sys2Proof.Machine

/-! ### Registers -/

@[simp] theorem reg_setReg_same (s : State) (r : R8) (v : Byte) : (s.setReg r v).reg r = v := by cases r <;> rfl
theorem reg_setReg_other (s : State) (r q : R8) (v : Byte) (h : q ≠ r) : (s.setReg r v).reg q = s.reg q := by
  cases r <;> cases q <;> first | rfl | exact absurd rfl h
theorem reg_setReg (s : State) (r q : R8) (v : Byte) : (s.setReg r v).reg q = if q = r then v else s.reg q := by
  cases r <;> cases q <;> rfl
@[simp] theorem setReg_f (s : State) (r : R8) (v : Byte) : (s.setReg r v).cpu.f = s.cpu.f := by cases r <;> rfl
@[simp] theorem setReg_sp (s : State) (r : R8) (v : Byte) : (s.setReg r v).cpu.sp = s.cpu.sp := by cases r <;> rfl
@[simp] theorem setReg_pc (s : State) (r : R8) (v : Byte) : (s.setReg r v).cpu.pc = s.cpu.pc := by cases r <;> rfl
@[simp] theorem setReg_ime (s : State) (r : R8) (v : Byte) : (s.setReg r v).cpu.ime = s.cpu.ime := by cases r <;> rfl
@[simp] theorem setReg_halted (s : State) (r : R8) (v : Byte) : (s.setReg r v).cpu.halted = s.cpu.halted := by cases r <;> rfl
@[simp] theorem setReg_stopped (s : State) (r : R8) (v : Byte) : (s.setReg r v).cpu.stopped = s.cpu.stopped := by cases r <;> rfl
@[simp] theorem setReg_eiPending (s : State) (r : R8) (v : Byte) : (s.setReg r v).cpu.eiPending = s.cpu.eiPending := by cases r <;> rfl
@[simp] theorem setReg_haltBug (s : State) (r : R8) (v : Byte) : (s.setReg r v).cpu.haltBug = s.cpu.haltBug := by cases r <;> rfl
@[simp] theorem setReg_crashed (s : State) (r : R8) (v : Byte) : (s.setReg r v).cpu.crashed = s.cpu.crashed := by cases r <;> rfl
@[simp] theorem setReg_irq (s : State) (r : R8) (v : Byte) : (s.setReg r v).irq = s.irq := rfl
@[simp] theorem setReg_timer (s : State) (r : R8) (v : Byte) : (s.setReg r v).timer = s.timer := rfl
@[simp] theorem setReg_joypad (s : State) (r : R8) (v : Byte) : (s.setReg r v).joypad = s.joypad := rfl
@[simp] theorem setReg_dma (s : State) (r : R8) (v : Byte) : (s.setReg r v).dma = s.dma := rfl
@[simp] theorem setReg_ppu (s : State) (r : R8) (v : Byte) : (s.setReg r v).ppu = s.ppu := rfl
@[simp] theorem setReg_cgb (s : State) (r : R8) (v : Byte) : (s.setReg r v).cgb = s.cgb := rfl
@[simp] theorem setReg_mapper (s : State) (r : R8) (v : Byte) : (s.setReg r v).mapper = s.mapper := rfl
@[simp] theorem setReg_bootMapped (s : State) (r : R8) (v : Byte) : (s.setReg r v).bootMapped = s.bootMapped := rfl
@[simp] theorem setReg_mem (s : State) (r : R8) (v : Byte) : (s.setReg r v).mem = s.mem := rfl
@[simp] theorem setReg_cfg (s : State) (r : R8) (v : Byte) : (s.setReg r v).cfg = s.cfg := rfl
@[simp] theorem setReg_freeCount (s : State) (r : R8) (v : Byte) : (s.setReg r v).freeCount = s.freeCount := rfl

/-! ### `setF` -/

@[simp] theorem setF_reg (s : State) (v : Byte) (r : R8) : (s.setF v).reg r = s.reg r := by cases r <;> rfl
@[simp] theorem setF_f (s : State) (v : Byte) : (s.setF v).cpu.f = v := rfl
@[simp] theorem setF_sp (s : State) (v : Byte) : (s.setF v).cpu.sp = s.cpu.sp := rfl
@[simp] theorem setF_pc (s : State) (v : Byte) : (s.setF v).cpu.pc = s.cpu.pc := rfl
@[simp] theorem setF_ime (s : State) (v : Byte) : (s.setF v).cpu.ime = s.cpu.ime := rfl
@[simp] theorem setF_halted (s : State) (v : Byte) : (s.setF v).cpu.halted = s.cpu.halted := rfl
@[simp] theorem setF_stopped (s : State) (v : Byte) : (s.setF v).cpu.stopped = s.cpu.stopped := rfl
@[simp] theorem setF_eiPending (s : State) (v : Byte) : (s.setF v).cpu.eiPending = s.cpu.eiPending := rfl
@[simp] theorem setF_haltBug (s : State) (v : Byte) : (s.setF v).cpu.haltBug = s.cpu.haltBug := rfl
@[simp] theorem setF_crashed (s : State) (v : Byte) : (s.setF v).cpu.crashed = s.cpu.crashed := rfl
@[simp] theorem setF_irq (s : State) (v : Byte) : (s.setF v).irq = s.irq := rfl
@[simp] theorem setF_timer (s : State) (v : Byte) : (s.setF v).timer = s.timer := rfl
@[simp] theorem setF_joypad (s : State) (v : Byte) : (s.setF v).joypad = s.joypad := rfl
@[simp] theorem setF_dma (s : State) (v : Byte) : (s.setF v).dma = s.dma := rfl
@[simp] theorem setF_ppu (s : State) (v : Byte) : (s.setF v).ppu = s.ppu := rfl
@[simp] theorem setF_cgb (s : State) (v : Byte) : (s.setF v).cgb = s.cgb := rfl
@[simp] theorem setF_mapper (s : State) (v : Byte) : (s.setF v).mapper = s.mapper := rfl
@[simp] theorem setF_bootMapped (s : State) (v : Byte) : (s.setF v).bootMapped = s.bootMapped := rfl
@[simp] theorem setF_mem (s : State) (v : Byte) : (s.setF v).mem = s.mem := rfl
@[simp] theorem setF_cfg (s : State) (v : Byte) : (s.setF v).cfg = s.cfg := rfl
@[simp] theorem setF_freeCount (s : State) (v : Byte) : (s.setF v).freeCount = s.freeCount := rfl

/-! ### `setSp` -/

@[simp] theorem setSp_reg (s : State) (v : Word) (r : R8) : (s.setSp v).reg r = s.reg r := by cases r <;> rfl
@[simp] theorem setSp_f (s : State) (v : Word) : (s.setSp v).cpu.f = s.cpu.f := rfl
@[simp] theorem setSp_sp (s : State) (v : Word) : (s.setSp v).cpu.sp = v := rfl
@[simp] theorem setSp_pc (s : State) (v : Word) : (s.setSp v).cpu.pc = s.cpu.pc := rfl
@[simp] theorem setSp_ime (s : State) (v : Word) : (s.setSp v).cpu.ime = s.cpu.ime := rfl
@[simp] theorem setSp_halted (s : State) (v : Word) : (s.setSp v).cpu.halted = s.cpu.halted := rfl
@[simp] theorem setSp_stopped (s : State) (v : Word) : (s.setSp v).cpu.stopped = s.cpu.stopped := rfl
@[simp] theorem setSp_eiPending (s : State) (v : Word) : (s.setSp v).cpu.eiPending = s.cpu.eiPending := rfl
@[simp] theorem setSp_haltBug (s : State) (v : Word) : (s.setSp v).cpu.haltBug = s.cpu.haltBug := rfl
@[simp] theorem setSp_crashed (s : State) (v : Word) : (s.setSp v).cpu.crashed = s.cpu.crashed := rfl
@[simp] theorem setSp_irq (s : State) (v : Word) : (s.setSp v).irq = s.irq := rfl
@[simp] theorem setSp_timer (s : State) (v : Word) : (s.setSp v).timer = s.timer := rfl
@[simp] theorem setSp_joypad (s : State) (v : Word) : (s.setSp v).joypad = s.joypad := rfl
@[simp] theorem setSp_dma (s : State) (v : Word) : (s.setSp v).dma = s.dma := rfl
@[simp] theorem setSp_ppu (s : State) (v : Word) : (s.setSp v).ppu = s.ppu := rfl
@[simp] theorem setSp_cgb (s : State) (v : Word) : (s.setSp v).cgb = s.cgb := rfl
@[simp] theorem setSp_mapper (s : State) (v : Word) : (s.setSp v).mapper = s.mapper := rfl
@[simp] theorem setSp_bootMapped (s : State) (v : Word) : (s.setSp v).bootMapped = s.bootMapped := rfl
@[simp] theorem setSp_mem (s : State) (v : Word) : (s.setSp v).mem = s.mem := rfl
@[simp] theorem setSp_cfg (s : State) (v : Word) : (s.setSp v).cfg = s.cfg := rfl
@[simp] theorem setSp_freeCount (s : State) (v : Word) : (s.setSp v).freeCount = s.freeCount := rfl

/-! ### `setPc` -/

@[simp] theorem setPc_reg (s : State) (v : Word) (r : R8) : (s.setPc v).reg r = s.reg r := by cases r <;> rfl
@[simp] theorem setPc_f (s : State) (v : Word) : (s.setPc v).cpu.f = s.cpu.f := rfl
@[simp] theorem setPc_sp (s : State) (v : Word) : (s.setPc v).cpu.sp = s.cpu.sp := rfl
@[simp] theorem setPc_pc (s : State) (v : Word) : (s.setPc v).cpu.pc = v := rfl
@[simp] theorem setPc_ime (s : State) (v : Word) : (s.setPc v).cpu.ime = s.cpu.ime := rfl
@[simp] theorem setPc_halted (s : State) (v : Word) : (s.setPc v).cpu.halted = s.cpu.halted := rfl
@[simp] theorem setPc_stopped (s : State) (v : Word) : (s.setPc v).cpu.stopped = s.cpu.stopped := rfl
@[simp] theorem setPc_eiPending (s : State) (v : Word) : (s.setPc v).cpu.eiPending = s.cpu.eiPending := rfl
@[simp] theorem setPc_haltBug (s : State) (v : Word) : (s.setPc v).cpu.haltBug = s.cpu.haltBug := rfl
@[simp] theorem setPc_crashed (s : State) (v : Word) : (s.setPc v).cpu.crashed = s.cpu.crashed := rfl
@[simp] theorem setPc_irq (s : State) (v : Word) : (s.setPc v).irq = s.irq := rfl
@[simp] theorem setPc_timer (s : State) (v : Word) : (s.setPc v).timer = s.timer := rfl
@[simp] theorem setPc_joypad (s : State) (v : Word) : (s.setPc v).joypad = s.joypad := rfl
@[simp] theorem setPc_dma (s : State) (v : Word) : (s.setPc v).dma = s.dma := rfl
@[simp] theorem setPc_ppu (s : State) (v : Word) : (s.setPc v).ppu = s.ppu := rfl
@[simp] theorem setPc_cgb (s : State) (v : Word) : (s.setPc v).cgb = s.cgb := rfl
@[simp] theorem setPc_mapper (s : State) (v : Word) : (s.setPc v).mapper = s.mapper := rfl
@[simp] theorem setPc_bootMapped (s : State) (v : Word) : (s.setPc v).bootMapped = s.bootMapped := rfl
@[simp] theorem setPc_mem (s : State) (v : Word) : (s.setPc v).mem = s.mem := rfl
@[simp] theorem setPc_cfg (s : State) (v : Word) : (s.setPc v).cfg = s.cfg := rfl
@[simp] theorem setPc_freeCount (s : State) (v : Word) : (s.setPc v).freeCount = s.freeCount := rfl

/-! ### `setIme` -/

@[simp] theorem setIme_reg (s : State) (v : Bool) (r : R8) : (s.setIme v).reg r = s.reg r := by cases r <;> rfl
@[simp] theorem setIme_f (s : State) (v : Bool) : (s.setIme v).cpu.f = s.cpu.f := rfl
@[simp] theorem setIme_sp (s : State) (v : Bool) : (s.setIme v).cpu.sp = s.cpu.sp := rfl
@[simp] theorem setIme_pc (s : State) (v : Bool) : (s.setIme v).cpu.pc = s.cpu.pc := rfl
@[simp] theorem setIme_ime (s : State) (v : Bool) : (s.setIme v).cpu.ime = v := rfl
@[simp] theorem setIme_halted (s : State) (v : Bool) : (s.setIme v).cpu.halted = s.cpu.halted := rfl
@[simp] theorem setIme_stopped (s : State) (v : Bool) : (s.setIme v).cpu.stopped = s.cpu.stopped := rfl
@[simp] theorem setIme_eiPending (s : State) (v : Bool) : (s.setIme v).cpu.eiPending = s.cpu.eiPending := rfl
@[simp] theorem setIme_haltBug (s : State) (v : Bool) : (s.setIme v).cpu.haltBug = s.cpu.haltBug := rfl
@[simp] theorem setIme_crashed (s : State) (v : Bool) : (s.setIme v).cpu.crashed = s.cpu.crashed := rfl
@[simp] theorem setIme_irq (s : State) (v : Bool) : (s.setIme v).irq = s.irq := rfl
@[simp] theorem setIme_timer (s : State) (v : Bool) : (s.setIme v).timer = s.timer := rfl
@[simp] theorem setIme_joypad (s : State) (v : Bool) : (s.setIme v).joypad = s.joypad := rfl
@[simp] theorem setIme_dma (s : State) (v : Bool) : (s.setIme v).dma = s.dma := rfl
@[simp] theorem setIme_ppu (s : State) (v : Bool) : (s.setIme v).ppu = s.ppu := rfl
@[simp] theorem setIme_cgb (s : State) (v : Bool) : (s.setIme v).cgb = s.cgb := rfl
@[simp] theorem setIme_mapper (s : State) (v : Bool) : (s.setIme v).mapper = s.mapper := rfl
@[simp] theorem setIme_bootMapped (s : State) (v : Bool) : (s.setIme v).bootMapped = s.bootMapped := rfl
@[simp] theorem setIme_mem (s : State) (v : Bool) : (s.setIme v).mem = s.mem := rfl
@[simp] theorem setIme_cfg (s : State) (v : Bool) : (s.setIme v).cfg = s.cfg := rfl
@[simp] theorem setIme_freeCount (s : State) (v : Bool) : (s.setIme v).freeCount = s.freeCount := rfl

/-! ### `setHalted` -/

@[simp] theorem setHalted_reg (s : State) (v : Bool) (r : R8) : (s.setHalted v).reg r = s.reg r := by cases r <;> rfl
@[simp] theorem setHalted_f (s : State) (v : Bool) : (s.setHalted v).cpu.f = s.cpu.f := rfl
@[simp] theorem setHalted_sp (s : State) (v : Bool) : (s.setHalted v).cpu.sp = s.cpu.sp := rfl
@[simp] theorem setHalted_pc (s : State) (v : Bool) : (s.setHalted v).cpu.pc = s.cpu.pc := rfl
@[simp] theorem setHalted_ime (s : State) (v : Bool) : (s.setHalted v).cpu.ime = s.cpu.ime := rfl
@[simp] theorem setHalted_halted (s : State) (v : Bool) : (s.setHalted v).cpu.halted = v := rfl
@[simp] theorem setHalted_stopped (s : State) (v : Bool) : (s.setHalted v).cpu.stopped = s.cpu.stopped := rfl
@[simp] theorem setHalted_eiPending (s : State) (v : Bool) : (s.setHalted v).cpu.eiPending = s.cpu.eiPending := rfl
@[simp] theorem setHalted_haltBug (s : State) (v : Bool) : (s.setHalted v).cpu.haltBug = s.cpu.haltBug := rfl
@[simp] theorem setHalted_crashed (s : State) (v : Bool) : (s.setHalted v).cpu.crashed = s.cpu.crashed := rfl
@[simp] theorem setHalted_irq (s : State) (v : Bool) : (s.setHalted v).irq = s.irq := rfl
@[simp] theorem setHalted_timer (s : State) (v : Bool) : (s.setHalted v).timer = s.timer := rfl
@[simp] theorem setHalted_joypad (s : State) (v : Bool) : (s.setHalted v).joypad = s.joypad := rfl
@[simp] theorem setHalted_dma (s : State) (v : Bool) : (s.setHalted v).dma = s.dma := rfl
@[simp] theorem setHalted_ppu (s : State) (v : Bool) : (s.setHalted v).ppu = s.ppu := rfl
@[simp] theorem setHalted_cgb (s : State) (v : Bool) : (s.setHalted v).cgb = s.cgb := rfl
@[simp] theorem setHalted_mapper (s : State) (v : Bool) : (s.setHalted v).mapper = s.mapper := rfl
@[simp] theorem setHalted_bootMapped (s : State) (v : Bool) : (s.setHalted v).bootMapped = s.bootMapped := rfl
@[simp] theorem setHalted_mem (s : State) (v : Bool) : (s.setHalted v).mem = s.mem := rfl
@[simp] theorem setHalted_cfg (s : State) (v : Bool) : (s.setHalted v).cfg = s.cfg := rfl
@[simp] theorem setHalted_freeCount (s : State) (v : Bool) : (s.setHalted v).freeCount = s.freeCount := rfl

/-! ### `setStopped` -/

@[simp] theorem setStopped_reg (s : State) (v : Bool) (r : R8) : (s.setStopped v).reg r = s.reg r := by cases r <;> rfl
@[simp] theorem setStopped_f (s : State) (v : Bool) : (s.setStopped v).cpu.f = s.cpu.f := rfl
@[simp] theorem setStopped_sp (s : State) (v : Bool) : (s.setStopped v).cpu.sp = s.cpu.sp := rfl
@[simp] theorem setStopped_pc (s : State) (v : Bool) : (s.setStopped v).cpu.pc = s.cpu.pc := rfl
@[simp] theorem setStopped_ime (s : State) (v : Bool) : (s.setStopped v).cpu.ime = s.cpu.ime := rfl
@[simp] theorem setStopped_halted (s : State) (v : Bool) : (s.setStopped v).cpu.halted = s.cpu.halted := rfl
@[simp] theorem setStopped_stopped (s : State) (v : Bool) : (s.setStopped v).cpu.stopped = v := rfl
@[simp] theorem setStopped_eiPending (s : State) (v : Bool) : (s.setStopped v).cpu.eiPending = s.cpu.eiPending := rfl
@[simp] theorem setStopped_haltBug (s : State) (v : Bool) : (s.setStopped v).cpu.haltBug = s.cpu.haltBug := rfl
@[simp] theorem setStopped_crashed (s : State) (v : Bool) : (s.setStopped v).cpu.crashed = s.cpu.crashed := rfl
@[simp] theorem setStopped_irq (s : State) (v : Bool) : (s.setStopped v).irq = s.irq := rfl
@[simp] theorem setStopped_timer (s : State) (v : Bool) : (s.setStopped v).timer = s.timer := rfl
@[simp] theorem setStopped_joypad (s : State) (v : Bool) : (s.setStopped v).joypad = s.joypad := rfl
@[simp] theorem setStopped_dma (s : State) (v : Bool) : (s.setStopped v).dma = s.dma := rfl
@[simp] theorem setStopped_ppu (s : State) (v : Bool) : (s.setStopped v).ppu = s.ppu := rfl
@[simp] theorem setStopped_cgb (s : State) (v : Bool) : (s.setStopped v).cgb = s.cgb := rfl
@[simp] theorem setStopped_mapper (s : State) (v : Bool) : (s.setStopped v).mapper = s.mapper := rfl
@[simp] theorem setStopped_bootMapped (s : State) (v : Bool) : (s.setStopped v).bootMapped = s.bootMapped := rfl
@[simp] theorem setStopped_mem (s : State) (v : Bool) : (s.setStopped v).mem = s.mem := rfl
@[simp] theorem setStopped_cfg (s : State) (v : Bool) : (s.setStopped v).cfg = s.cfg := rfl
@[simp] theorem setStopped_freeCount (s : State) (v : Bool) : (s.setStopped v).freeCount = s.freeCount := rfl

/-! ### `setEiPending` -/

@[simp] theorem setEiPending_reg (s : State) (v : Bool) (r : R8) : (s.setEiPending v).reg r = s.reg r := by cases r <;> rfl
@[simp] theorem setEiPending_f (s : State) (v : Bool) : (s.setEiPending v).cpu.f = s.cpu.f := rfl
@[simp] theorem setEiPending_sp (s : State) (v : Bool) : (s.setEiPending v).cpu.sp = s.cpu.sp := rfl
@[simp] theorem setEiPending_pc (s : State) (v : Bool) : (s.setEiPending v).cpu.pc = s.cpu.pc := rfl
@[simp] theorem setEiPending_ime (s : State) (v : Bool) : (s.setEiPending v).cpu.ime = s.cpu.ime := rfl
@[simp] theorem setEiPending_halted (s : State) (v : Bool) : (s.setEiPending v).cpu.halted = s.cpu.halted := rfl
@[simp] theorem setEiPending_stopped (s : State) (v : Bool) : (s.setEiPending v).cpu.stopped = s.cpu.stopped := rfl
@[simp] theorem setEiPending_eiPending (s : State) (v : Bool) : (s.setEiPending v).cpu.eiPending = v := rfl
@[simp] theorem setEiPending_haltBug (s : State) (v : Bool) : (s.setEiPending v).cpu.haltBug = s.cpu.haltBug := rfl
@[simp] theorem setEiPending_crashed (s : State) (v : Bool) : (s.setEiPending v).cpu.crashed = s.cpu.crashed := rfl
@[simp] theorem setEiPending_irq (s : State) (v : Bool) : (s.setEiPending v).irq = s.irq := rfl
@[simp] theorem setEiPending_timer (s : State) (v : Bool) : (s.setEiPending v).timer = s.timer := rfl
@[simp] theorem setEiPending_joypad (s : State) (v : Bool) : (s.setEiPending v).joypad = s.joypad := rfl
@[simp] theorem setEiPending_dma (s : State) (v : Bool) : (s.setEiPending v).dma = s.dma := rfl
@[simp] theorem setEiPending_ppu (s : State) (v : Bool) : (s.setEiPending v).ppu = s.ppu := rfl
@[simp] theorem setEiPending_cgb (s : State) (v : Bool) : (s.setEiPending v).cgb = s.cgb := rfl
@[simp] theorem setEiPending_mapper (s : State) (v : Bool) : (s.setEiPending v).mapper = s.mapper := rfl
@[simp] theorem setEiPending_bootMapped (s : State) (v : Bool) : (s.setEiPending v).bootMapped = s.bootMapped := rfl
@[simp] theorem setEiPending_mem (s : State) (v : Bool) : (s.setEiPending v).mem = s.mem := rfl
@[simp] theorem setEiPending_cfg (s : State) (v : Bool) : (s.setEiPending v).cfg = s.cfg := rfl
@[simp] theorem setEiPending_freeCount (s : State) (v : Bool) : (s.setEiPending v).freeCount = s.freeCount := rfl

/-! ### `setHaltBug` -/

@[simp] theorem setHaltBug_reg (s : State) (v : Bool) (r : R8) : (s.setHaltBug v).reg r = s.reg r := by cases r <;> rfl
@[simp] theorem setHaltBug_f (s : State) (v : Bool) : (s.setHaltBug v).cpu.f = s.cpu.f := rfl
@[simp] theorem setHaltBug_sp (s : State) (v : Bool) : (s.setHaltBug v).cpu.sp = s.cpu.sp := rfl
@[simp] theorem setHaltBug_pc (s : State) (v : Bool) : (s.setHaltBug v).cpu.pc = s.cpu.pc := rfl
@[simp] theorem setHaltBug_ime (s : State) (v : Bool) : (s.setHaltBug v).cpu.ime = s.cpu.ime := rfl
@[simp] theorem setHaltBug_halted (s : State) (v : Bool) : (s.setHaltBug v).cpu.halted = s.cpu.halted := rfl
@[simp] theorem setHaltBug_stopped (s : State) (v : Bool) : (s.setHaltBug v).cpu.stopped = s.cpu.stopped := rfl
@[simp] theorem setHaltBug_eiPending (s : State) (v : Bool) : (s.setHaltBug v).cpu.eiPending = s.cpu.eiPending := rfl
@[simp] theorem setHaltBug_haltBug (s : State) (v : Bool) : (s.setHaltBug v).cpu.haltBug = v := rfl
@[simp] theorem setHaltBug_crashed (s : State) (v : Bool) : (s.setHaltBug v).cpu.crashed = s.cpu.crashed := rfl
@[simp] theorem setHaltBug_irq (s : State) (v : Bool) : (s.setHaltBug v).irq = s.irq := rfl
@[simp] theorem setHaltBug_timer (s : State) (v : Bool) : (s.setHaltBug v).timer = s.timer := rfl
@[simp] theorem setHaltBug_joypad (s : State) (v : Bool) : (s.setHaltBug v).joypad = s.joypad := rfl
@[simp] theorem setHaltBug_dma (s : State) (v : Bool) : (s.setHaltBug v).dma = s.dma := rfl
@[simp] theorem setHaltBug_ppu (s : State) (v : Bool) : (s.setHaltBug v).ppu = s.ppu := rfl
@[simp] theorem setHaltBug_cgb (s : State) (v : Bool) : (s.setHaltBug v).cgb = s.cgb := rfl
@[simp] theorem setHaltBug_mapper (s : State) (v : Bool) : (s.setHaltBug v).mapper = s.mapper := rfl
@[simp] theorem setHaltBug_bootMapped (s : State) (v : Bool) : (s.setHaltBug v).bootMapped = s.bootMapped := rfl
@[simp] theorem setHaltBug_mem (s : State) (v : Bool) : (s.setHaltBug v).mem = s.mem := rfl
@[simp] theorem setHaltBug_cfg (s : State) (v : Bool) : (s.setHaltBug v).cfg = s.cfg := rfl
@[simp] theorem setHaltBug_freeCount (s : State) (v : Bool) : (s.setHaltBug v).freeCount = s.freeCount := rfl

/-! ### `setCrashed` -/

@[simp] theorem setCrashed_reg (s : State) (v : Bool) (r : R8) : (s.setCrashed v).reg r = s.reg r := by cases r <;> rfl
@[simp] theorem setCrashed_f (s : State) (v : Bool) : (s.setCrashed v).cpu.f = s.cpu.f := rfl
@[simp] theorem setCrashed_sp (s : State) (v : Bool) : (s.setCrashed v).cpu.sp = s.cpu.sp := rfl
@[simp] theorem setCrashed_pc (s : State) (v : Bool) : (s.setCrashed v).cpu.pc = s.cpu.pc := rfl
@[simp] theorem setCrashed_ime (s : State) (v : Bool) : (s.setCrashed v).cpu.ime = s.cpu.ime := rfl
@[simp] theorem setCrashed_halted (s : State) (v : Bool) : (s.setCrashed v).cpu.halted = s.cpu.halted := rfl
@[simp] theorem setCrashed_stopped (s : State) (v : Bool) : (s.setCrashed v).cpu.stopped = s.cpu.stopped := rfl
@[simp] theorem setCrashed_eiPending (s : State) (v : Bool) : (s.setCrashed v).cpu.eiPending = s.cpu.eiPending := rfl
@[simp] theorem setCrashed_haltBug (s : State) (v : Bool) : (s.setCrashed v).cpu.haltBug = s.cpu.haltBug := rfl
@[simp] theorem setCrashed_crashed (s : State) (v : Bool) : (s.setCrashed v).cpu.crashed = v := rfl
@[simp] theorem setCrashed_irq (s : State) (v : Bool) : (s.setCrashed v).irq = s.irq := rfl
@[simp] theorem setCrashed_timer (s : State) (v : Bool) : (s.setCrashed v).timer = s.timer := rfl
@[simp] theorem setCrashed_joypad (s : State) (v : Bool) : (s.setCrashed v).joypad = s.joypad := rfl
@[simp] theorem setCrashed_dma (s : State) (v : Bool) : (s.setCrashed v).dma = s.dma := rfl
@[simp] theorem setCrashed_ppu (s : State) (v : Bool) : (s.setCrashed v).ppu = s.ppu := rfl
@[simp] theorem setCrashed_cgb (s : State) (v : Bool) : (s.setCrashed v).cgb = s.cgb := rfl
@[simp] theorem setCrashed_mapper (s : State) (v : Bool) : (s.setCrashed v).mapper = s.mapper := rfl
@[simp] theorem setCrashed_bootMapped (s : State) (v : Bool) : (s.setCrashed v).bootMapped = s.bootMapped := rfl
@[simp] theorem setCrashed_mem (s : State) (v : Bool) : (s.setCrashed v).mem = s.mem := rfl
@[simp] theorem setCrashed_cfg (s : State) (v : Bool) : (s.setCrashed v).cfg = s.cfg := rfl
@[simp] theorem setCrashed_freeCount (s : State) (v : Bool) : (s.setCrashed v).freeCount = s.freeCount := rfl

/-! ### `poke` -/

@[simp] theorem poke_cpu (s : State) (k : Store) (i : Nat) (v : Byte) : (s.poke k i v).cpu = s.cpu := rfl
@[simp] theorem poke_irq (s : State) (k : Store) (i : Nat) (v : Byte) : (s.poke k i v).irq = s.irq := rfl
@[simp] theorem poke_timer (s : State) (k : Store) (i : Nat) (v : Byte) : (s.poke k i v).timer = s.timer := rfl
@[simp] theorem poke_joypad (s : State) (k : Store) (i : Nat) (v : Byte) : (s.poke k i v).joypad = s.joypad := rfl
@[simp] theorem poke_dma (s : State) (k : Store) (i : Nat) (v : Byte) : (s.poke k i v).dma = s.dma := rfl
@[simp] theorem poke_ppu (s : State) (k : Store) (i : Nat) (v : Byte) : (s.poke k i v).ppu = s.ppu := rfl
@[simp] theorem poke_cgb (s : State) (k : Store) (i : Nat) (v : Byte) : (s.poke k i v).cgb = s.cgb := rfl
@[simp] theorem poke_mapper (s : State) (k : Store) (i : Nat) (v : Byte) : (s.poke k i v).mapper = s.mapper := rfl
@[simp] theorem poke_bootMapped (s : State) (k : Store) (i : Nat) (v : Byte) : (s.poke k i v).bootMapped = s.bootMapped := rfl
@[simp] theorem poke_cfg (s : State) (k : Store) (i : Nat) (v : Byte) : (s.poke k i v).cfg = s.cfg := rfl
@[simp] theorem poke_freeCount (s : State) (k : Store) (i : Nat) (v : Byte) : (s.poke k i v).freeCount = s.freeCount := rfl

/-! ### `requestInterrupt` -/

@[simp] theorem requestInterrupt_cpu (s : State) (i : Source) : (requestInterrupt i s).cpu = s.cpu := rfl
@[simp] theorem requestIf_cpu (s : State) (c : Bool) (i : Source) : (requestIf c i s).cpu = s.cpu := by cases c <;> rfl
@[simp] theorem requestInterrupt_timer (s : State) (i : Source) : (requestInterrupt i s).timer = s.timer := rfl
@[simp] theorem requestIf_timer (s : State) (c : Bool) (i : Source) : (requestIf c i s).timer = s.timer := by cases c <;> rfl
@[simp] theorem requestInterrupt_joypad (s : State) (i : Source) : (requestInterrupt i s).joypad = s.joypad := rfl
@[simp] theorem requestIf_joypad (s : State) (c : Bool) (i : Source) : (requestIf c i s).joypad = s.joypad := by cases c <;> rfl
@[simp] theorem requestInterrupt_dma (s : State) (i : Source) : (requestInterrupt i s).dma = s.dma := rfl
@[simp] theorem requestIf_dma (s : State) (c : Bool) (i : Source) : (requestIf c i s).dma = s.dma := by cases c <;> rfl
@[simp] theorem requestInterrupt_ppu (s : State) (i : Source) : (requestInterrupt i s).ppu = s.ppu := rfl
@[simp] theorem requestIf_ppu (s : State) (c : Bool) (i : Source) : (requestIf c i s).ppu = s.ppu := by cases c <;> rfl
@[simp] theorem requestInterrupt_cgb (s : State) (i : Source) : (requestInterrupt i s).cgb = s.cgb := rfl
@[simp] theorem requestIf_cgb (s : State) (c : Bool) (i : Source) : (requestIf c i s).cgb = s.cgb := by cases c <;> rfl
@[simp] theorem requestInterrupt_mapper (s : State) (i : Source) : (requestInterrupt i s).mapper = s.mapper := rfl
@[simp] theorem requestIf_mapper (s : State) (c : Bool) (i : Source) : (requestIf c i s).mapper = s.mapper := by cases c <;> rfl
@[simp] theorem requestInterrupt_bootMapped (s : State) (i : Source) : (requestInterrupt i s).bootMapped = s.bootMapped := rfl
@[simp] theorem requestIf_bootMapped (s : State) (c : Bool) (i : Source) : (requestIf c i s).bootMapped = s.bootMapped := by cases c <;> rfl
@[simp] theorem requestInterrupt_mem (s : State) (i : Source) : (requestInterrupt i s).mem = s.mem := rfl
@[simp] theorem requestIf_mem (s : State) (c : Bool) (i : Source) : (requestIf c i s).mem = s.mem := by cases c <;> rfl
@[simp] theorem requestInterrupt_cfg (s : State) (i : Source) : (requestInterrupt i s).cfg = s.cfg := rfl
@[simp] theorem requestIf_cfg (s : State) (c : Bool) (i : Source) : (requestIf c i s).cfg = s.cfg := by cases c <;> rfl
@[simp] theorem requestInterrupt_freeCount (s : State) (i : Source) : (requestInterrupt i s).freeCount = s.freeCount := rfl
@[simp] theorem requestIf_freeCount (s : State) (c : Bool) (i : Source) : (requestIf c i s).freeCount = s.freeCount := by cases c <;> rfl
@[simp] theorem requestInterrupt_ie (s : State) (i : Source) : (requestInterrupt i s).irq.ie = s.irq.ie := rfl
@[simp] theorem requestInterrupt_ifReg (s : State) (i : Source) :
    (requestInterrupt i s).irq.ifReg = s.irq.ifReg ||| i.bit := rfl

/-! ### Only the CPU changes -/

theorem setReg_rest (s : State) (r : R8) (v : Byte) : s.setReg r v = { s with cpu := (s.setReg r v).cpu } := rfl
theorem reg_ext (s t : State) (hr : ∀ r, t.reg r = s.reg r) (hf : t.cpu.f = s.cpu.f) (hsp : t.cpu.sp = s.cpu.sp)
    (hpc : t.cpu.pc = s.cpu.pc) (hl : KeepsLatches s t) : t.cpu = s.cpu := by
  obtain ⟨h1, h2, h3, h4, h5, h6⟩ := hl
  have ha := hr .a
  have hb := hr .b
  have hc := hr .c
  have hd := hr .d
  have he := hr .e
  have hh := hr .h
  have hl := hr .l
  cases s with
  | mk sc _ _ _ _ _ _ _ _ _ _ _ =>
    cases t with
    | mk tc _ _ _ _ _ _ _ _ _ _ _ =>
      cases sc
      cases tc
      simp_all [State.reg, Cpu.get]

end Sys2Proof.Machine
end

