-- ==== Sys2Proof/Laws/Memory.lean ====
section
/-! SUPPORT. The laws of a byte store and of the ten stores of State: read after write, and that a write keeps the canonical form. -/

namespace Sys2Proof.Machine

@[simp] theorem Memory.read_nil (blank : Byte) (a : Nat) : Memory.read blank [] a = blank := rfl
@[simp] theorem Memory.read_cons (blank : Byte) (k : Nat) (v : Byte) (rest : Memory) (a : Nat) :
    Memory.read blank ((k, v) :: rest) a = if k = a then v else Memory.read blank rest a := rfl

/-- The canonical form of a non-empty store, entry by entry. -/
theorem Memory.wf_cons (blank : Byte) (k : Nat) (v : Byte) (rest : Memory) :
    Memory.wf blank ((k, v) :: rest) = true ↔
      v ≠ blank ∧ (∀ p ∈ rest.head?, k < p.1) ∧ Memory.wf blank rest = true := by
  cases rest with
  | nil => simp [Memory.wf]
  | cons p rest => obtain ⟨b, w⟩ := p; simp [Memory.wf, and_assoc]

/-- Below its first entry a canonical store lists nothing. -/
theorem Memory.read_below (blank : Byte) (m : Memory) (h : m.wf blank = true) (a : Nat)
    (ha : ∀ p ∈ m.head?, a < p.1) : Memory.read blank m a = blank := by
  induction m generalizing a with
  | nil => rfl
  | cons p rest ih =>
    obtain ⟨k, v⟩ := p
    obtain ⟨-, hk, hr⟩ := (Memory.wf_cons ..).1 h
    have hak : a < k := ha (k, v) rfl
    rw [Memory.read_cons, if_neg (by omega)]
    exact ih hr a fun q hq => lt_trans hak (hk q hq)

/-- Reading where a byte was just stored gives that byte. -/
theorem Memory.read_write_same (blank : Byte) (m : Memory) (h : m.wf blank = true) (a : Nat) (v : Byte) :
    Memory.read blank (m.write blank a v) a = v := by
  induction m with
  | nil => by_cases hv : v = blank <;> simp [Memory.write, hv]
  | cons p rest ih =>
    obtain ⟨k, w⟩ := p
    obtain ⟨-, hk, hr⟩ := (Memory.wf_cons ..).1 h
    by_cases h1 : a < k
    · by_cases hv : v = blank
      · simp only [Memory.write, if_pos h1, if_pos hv]
        rw [hv, Memory.read_below _ _ h]
        rintro q ⟨⟩
        exact h1
      · simp [Memory.write, if_pos h1, if_neg hv]
    · by_cases h2 : a = k
      · by_cases hv : v = blank
        · subst h2
          simp only [Memory.write, if_neg h1, if_pos hv, if_true]
          rw [hv, Memory.read_below _ _ hr _ hk]
        · simp [Memory.write, h1, h2, hv]
      · simp [Memory.write, h1, h2, Ne.symm h2, ih hr]

/-- A store leaves every other offset alone. -/
theorem Memory.read_write_other (blank : Byte) (m : Memory) (a b : Nat) (v : Byte) (hb : b ≠ a) :
    Memory.read blank (m.write blank a v) b = Memory.read blank m b := by
  induction m with
  | nil => by_cases hv : v = blank <;> simp [Memory.write, hv, Ne.symm hb]
  | cons p rest ih =>
    obtain ⟨k, w⟩ := p
    by_cases h1 : a < k
    · by_cases hv : v = blank <;> simp [Memory.write, h1, hv, Ne.symm hb]
    · by_cases h2 : a = k
      · subst h2
        by_cases hv : v = blank <;> simp [Memory.write, hv, Ne.symm hb]
      · simp [Memory.write, h1, h2, ih]

/-- The first entry after a store is the stored one or the old first one. -/
theorem Memory.head_write (blank : Byte) (m : Memory) (a : Nat) (v : Byte) (k : Nat) (hk : k < a)
    (h : ∀ p ∈ m.head?, k < p.1) (hw : m.wf blank = true) : ∀ p ∈ (m.write blank a v).head?, k < p.1 := by
  cases m with
  | nil => by_cases hv : v = blank <;> simp [Memory.write, hv, hk]
  | cons q rest =>
    obtain ⟨j, w⟩ := q
    have hj : k < j := h (j, w) rfl
    obtain ⟨-, hjr, -⟩ := (Memory.wf_cons ..).1 hw
    by_cases h1 : a < j
    · by_cases hv : v = blank <;> simp [Memory.write, h1, hv, hj, hk]
    · by_cases h2 : a = j
      · by_cases hv : v = blank
        · simp only [Memory.write, if_neg h1, if_pos h2, if_pos hv]
          exact fun p hp => lt_trans hj (hjr p hp)
        · simp [Memory.write, h2, hv, hj]
      · simp [Memory.write, h1, h2, hj]

/-- A store keeps the canonical form. -/
theorem Memory.wf_write (blank : Byte) (m : Memory) (a : Nat) (v : Byte) (h : m.wf blank = true) :
    (m.write blank a v).wf blank = true := by
  induction m with
  | nil => by_cases hv : v = blank <;> simp [Memory.write, Memory.wf, hv]
  | cons p rest ih =>
    obtain ⟨k, w⟩ := p
    obtain ⟨hw, hk, hr⟩ := (Memory.wf_cons ..).1 h
    by_cases h1 : a < k
    · by_cases hv : v = blank
      · simpa [Memory.write, h1, hv] using h
      · simp only [Memory.write, if_pos h1, if_neg hv]
        refine (Memory.wf_cons ..).2 ⟨hv, ?_, h⟩
        rintro q ⟨⟩
        exact h1
    · by_cases h2 : a = k
      · subst h2
        by_cases hv : v = blank
        · simpa [Memory.write, hv] using hr
        · simp only [Memory.write, if_neg h1, if_neg hv, if_true]
          exact (Memory.wf_cons ..).2 ⟨hv, hk, hr⟩
      · simp only [Memory.write, if_neg h1, if_neg h2]
        exact (Memory.wf_cons ..).2 ⟨hw, Memory.head_write _ _ _ _ _ (by omega) hk hr, ih hr⟩

/-- A store built from bytes lists nothing below its start. -/
theorem Memory.head_ofBytes (blank : Byte) (l : List Byte) (start : Nat) :
    ∀ p ∈ (Memory.ofBytes blank start l).head?, start ≤ p.1 := by
  induction l generalizing start with
  | nil => simp [Memory.ofBytes]
  | cons v rest ih =>
    by_cases hv : v = blank
    · simp only [Memory.ofBytes, if_pos hv]
      exact fun p hp => le_trans (Nat.le_succ _) (ih (start + 1) p hp)
    · simp [Memory.ofBytes, hv]

/-- A store built from bytes has the canonical form. -/
theorem Memory.wf_ofBytes (blank : Byte) (l : List Byte) (start : Nat) :
    (Memory.ofBytes blank start l).wf blank = true := by
  induction l generalizing start with
  | nil => rfl
  | cons v rest ih =>
    by_cases hv : v = blank
    · simpa [Memory.ofBytes, hv] using ih _
    · simp only [Memory.ofBytes, if_neg hv]
      exact (Memory.wf_cons ..).2 ⟨hv, fun p hp => Memory.head_ofBytes _ _ _ p hp, ih _⟩

/-- A read of a store built from bytes. -/
theorem Memory.read_ofBytes (blank : Byte) (l : List Byte) (start i : Nat) :
    (Memory.ofBytes blank start l).read blank i = if start ≤ i then l.getD (i - start) blank else blank := by
  induction l generalizing start with
  | nil => simp [Memory.ofBytes]
  | cons v rest ih =>
    have shift : start < i → i - start = i - (start + 1) + 1 := by omega
    rcases Nat.lt_trichotomy start i with h | rfl | h
    · by_cases hv : v = blank <;>
        simp [Memory.ofBytes, hv, ih, shift h, Nat.le_of_lt h, Nat.ne_of_lt h, Nat.succ_le_of_lt h]
    · by_cases hv : v = blank <;> simp [Memory.ofBytes, hv, ih]
    · by_cases hv : v = blank <;>
        simp [Memory.ofBytes, hv, ih, Nat.not_le_of_lt h, Nat.ne_of_gt h, Nat.not_le_of_lt (Nat.lt_succ_of_lt h)]

/-! ### The stores of State -/

@[simp] theorem Stores.get_set_same (m : Stores) (k : Store) (x : Memory) : (m.set k x).get k = x := by cases k <;> rfl
theorem Stores.get_set_other (m : Stores) (k j : Store) (x : Memory) (h : j ≠ k) : (m.set k x).get j = m.get j := by
  cases k <;> cases j <;> first | rfl | exact absurd rfl h

/-- Peeking depends on the stores alone. -/
theorem peek_congr (s t : State) (h : t.mem = s.mem) (k : Store) (i : Nat) : t.peek k i = s.peek k i := by
  simp [State.peek, h]

theorem peek_poke_same (s : State) (k : Store) (i : Nat) (v : Byte) (h : Memory.wf k.blank (s.mem.get k) = true) :
    (s.poke k i v).peek k i = v := by
  simp [State.peek, State.poke, Memory.read_write_same _ _ h]

theorem peek_poke_other (s : State) (k j : Store) (i n : Nat) (v : Byte) (h : (j, n) ≠ (k, i)) :
    (s.poke k i v).peek j n = s.peek j n := by
  by_cases hk : j = k
  · subst hk
    have : n ≠ i := fun e => h (by rw [e])
    simp [State.peek, State.poke, Memory.read_write_other _ _ _ _ _ this]
  · simp [State.peek, State.poke, Stores.get_set_other _ _ _ _ hk]

/-- A poke keeps every store canonical. -/
theorem storesWf_poke (s : State) (k : Store) (i : Nat) (v : Byte) (h : StoresWf s) : StoresWf (s.poke k i v) := by
  intro j
  by_cases hk : j = k
  · subst hk
    simpa [State.poke] using Memory.wf_write _ _ _ _ (h j)
  · simpa [State.poke, Stores.get_set_other _ _ _ _ hk] using h j

theorem storesWf_congr (s t : State) (h : t.mem = s.mem) (hs : StoresWf s) : StoresWf t := by
  intro k
  rw [h]
  exact hs k

end Sys2Proof.Machine
end

