-- ==== Sys2Proof/Laws/Bus.lean ====
section
/-! SUPPORT. What a bus read depends on and what a bus write can do (one inversion lemma), with the fields a write keeps. -/

namespace Sys2Proof.Machine

/-! ### Reads -/

/-- No read looks at the CPU. -/
@[simp] theorem memRead_cpu (s : State) (c : Cpu) (port : ReadPort) (a : Word) :
    memRead port a { s with cpu := c } = memRead port a s := rfl

@[simp] theorem rawRead_cpu (s : State) (c : Cpu) (port : ReadPort) (a : Word) :
    rawRead port a { s with cpu := c } = rawRead port a s := rfl

@[simp] theorem dmaSource_cpu (s : State) (c : Cpu) (port : ReadPort) (a : Word) :
    dmaSource port a { s with cpu := c } = dmaSource port a s := rfl

/-- Outside cartridge RAM a raw read is the DMA engine's (R74, R105). -/
theorem rawRead_eq_dmaSource (s : State) (port : ReadPort) (a : Word) (h : Region.of a ≠ .cartRam) :
    rawRead port a s = dmaSource port a s := by
  unfold rawRead dmaSource
  generalize hg : Region.of a = g at h
  cases g <;> first | rfl | exact absurd rfl h

/-- In cartridge RAM a raw read gives what `ReadRam` gives, the latch open or closed (R74, D21). -/
theorem rawRead_cartRam (s : State) (port : ReadPort) (a : Word) (h : Region.of a = .cartRam) :
    rawRead port a s = cartFetch a.toNat s := by
  rw [rawRead, h]

theorem memRead_setReg (s : State) (r : R8) (v : Byte) (port : ReadPort) (a : Word) :
    memRead port a (s.setReg r v) = memRead port a s := rfl

/-- A change of the CPU alone leaves the rest of the machine and every byte of memory as it was. -/
theorem keepsRest_cpu (s : State) (c : Cpu) : KeepsRest s { s with cpu := c } := ⟨rfl, fun _ _ => rfl⟩

/-- While the DMA window is closed the CPU reads what the dispatcher gives (R72). -/
theorem memRead_closed_window (s : State) (port : ReadPort) (a : Word) (h : s.dma.cyclesLeft = 0) :
    memRead port a s = dispatchRead (locked s) port a s := by
  simp [memRead, h]

/-- Reads depend on the parts of the machine other than the CPU; where those agree, every read agrees. -/
theorem memRead_congr (s t : State) (h : t = { s with cpu := t.cpu }) (port : ReadPort) (a : Word) :
    memRead port a t = memRead port a s := by
  rw [h, memRead_cpu]

/-! ### The address map -/

theorem region_rom0 {a : Word} (h : a.toNat < 0x4000) : Region.of a = .rom0 := by simp [Region.of, h]
theorem region_romN {a : Word} (h1 : 0x4000 ≤ a.toNat) (h2 : a.toNat < 0x8000) : Region.of a = .romN := by
  simp [Region.of, h2, show ¬a.toNat < 0x4000 by omega]
theorem region_vram {a : Word} (h1 : 0x8000 ≤ a.toNat) (h2 : a.toNat < 0xA000) : Region.of a = .vram := by
  simp [Region.of, h2, show ¬a.toNat < 0x4000 by omega, show ¬a.toNat < 0x8000 by omega]
theorem region_cartRam {a : Word} (h1 : 0xA000 ≤ a.toNat) (h2 : a.toNat < 0xC000) : Region.of a = .cartRam := by
  simp [Region.of, h2, show ¬a.toNat < 0x4000 by omega, show ¬a.toNat < 0x8000 by omega, show ¬a.toNat < 0xA000 by omega]
theorem region_wram {a : Word} (h1 : 0xC000 ≤ a.toNat) (h2 : a.toNat < 0xE000) : Region.of a = .wram := by
  simp [Region.of, h2, show ¬a.toNat < 0x4000 by omega, show ¬a.toNat < 0x8000 by omega, show ¬a.toNat < 0xA000 by omega,
    show ¬a.toNat < 0xC000 by omega]
theorem region_echo {a : Word} (h1 : 0xE000 ≤ a.toNat) (h2 : a.toNat < 0xFE00) : Region.of a = .echo := by
  simp [Region.of, h2, show ¬a.toNat < 0x4000 by omega, show ¬a.toNat < 0x8000 by omega, show ¬a.toNat < 0xA000 by omega,
    show ¬a.toNat < 0xC000 by omega, show ¬a.toNat < 0xE000 by omega]
theorem region_oam {a : Word} (h1 : 0xFE00 ≤ a.toNat) (h2 : a.toNat < 0xFEA0) : Region.of a = .oam := by
  simp [Region.of, h2, show ¬a.toNat < 0x4000 by omega, show ¬a.toNat < 0x8000 by omega, show ¬a.toNat < 0xA000 by omega,
    show ¬a.toNat < 0xC000 by omega, show ¬a.toNat < 0xE000 by omega, show ¬a.toNat < 0xFE00 by omega]
theorem region_hram {a : Word} (h1 : 0xFF80 ≤ a.toNat) (h2 : a.toNat < 0xFFFF) : Region.of a = .hram := by
  simp [Region.of, h2, show ¬a.toNat < 0x4000 by omega, show ¬a.toNat < 0x8000 by omega, show ¬a.toNat < 0xA000 by omega,
    show ¬a.toNat < 0xC000 by omega, show ¬a.toNat < 0xE000 by omega, show ¬a.toNat < 0xFE00 by omega,
    show ¬a.toNat < 0xFEA0 by omega, show ¬a.toNat < 0xFF00 by omega, show ¬a.toNat < 0xFF80 by omega]

/-! ### Writes -/

/-- A control write keeps the mapper's kind. -/
@[simp] theorem Mapper.kind_control (m : Mapper) (a : Nat) (v : Byte) : (m.control a v).kind = m.kind := by
  cases m <;> rfl

@[simp] theorem Mapper.kind_setClock (m : Mapper) (r : RtcReg) (v : Byte) : (m.setClock r v).kind = m.kind := by
  cases m <;> rfl

/-- The OAM copy touches OAM alone. -/
theorem dmaCopy_keeps (P : State → Prop) (hp : ∀ s i v, P s → P (s.poke .oam i v)) (src : Word) (n i : Nat) (s : State)
    (h : P s) : P (dmaCopy src n i s) := by
  induction n generalizing i s with
  | zero => exact h
  | succ n ih => exact ih _ _ (hp _ _ _ h)

/-- The stores a CPU write can change. -/
def Store.writable : Store → Bool
  | .vram | .cartRam | .wram | .oam | .hram | .bgPalRam | .objPalRam => true
  | .rom | .bootRom | .framebuffer => false

/-- Everything one bus write can do (R73, R80): nothing; a mapper's state; one byte of a writable store; a device register. -/
theorem memWrite_cases (P : State → Prop) (a : Word) (v : Byte) (s : State)
    (same : P s)
    (mapper : ∀ m, m.kind = s.mapper.kind → P { s with mapper := m })
    (store : ∀ k i w, Store.writable k = true → P (s.poke k i w))
    (irq : ∀ x, P { s with irq := x })
    (timer : ∀ x : Timer, x.divCounter ≤ s.timer.divCounter → x.timaCounter = s.timer.timaCounter → P { s with timer := x })
    (joypad : ∀ x : Joypad, x.keys = s.joypad.keys → P { s with joypad := x })
    (ppu : ∀ x : Ppu, x.lcdc = s.ppu.lcdc → x.ly = s.ppu.ly → x.scanCounter = s.ppu.scanCounter → x.mode = s.ppu.mode →
      x.windowLine = s.ppu.windowLine → x.bgPrio = s.ppu.bgPrio → x.frameReady = s.ppu.frameReady → P { s with ppu := x })
    (lcdc : P (writeLcdc v s))
    (cgb : ∀ x, P { s with cgb := x })
    (palette : ∀ k i x, k = .bgPalRam ∨ k = .objPalRam → P { s.poke k i v with cgb := x })
    (boot : P { s with bootMapped := false })
    (dma : P (startDma v s)) : P (memWrite a v s) := by
  unfold memWrite
  cases Region.of a <;> dsimp only
  case rom0 => exact mapper _ (by simp)
  case romN => exact mapper _ (by simp)
  case vram => split <;> [exact same; exact store _ _ _ rfl]
  case cartRam =>
    split
    · unfold cartStore
      split <;> [exact store _ _ _ rfl; exact store _ _ _ rfl; exact mapper _ (by simp); exact same]
    · exact same
  case wram => exact store _ _ _ rfl
  case echo => exact store _ _ _ rfl
  case oam => split <;> [exact same; exact store _ _ _ rfl]
  case unusable => exact same
  case hram => exact store _ _ _ rfl
  case ie => exact irq _
  case io =>
    cases IoReg.ofAddr a with
    | none => exact same
    | some r =>
      dsimp only
      unfold ioWrite
      split
      · exact same
      · cases r <;> dsimp only
        case joyp => exact joypad _ rfl
        case div => exact timer _ (Nat.zero_le _) rfl
        case tima => exact timer _ (Nat.le_refl _) rfl
        case tma => exact timer _ (Nat.le_refl _) rfl
        case tac => exact timer _ (Nat.le_refl _) rfl
        case ifReg => exact irq _
        case lcdc => exact lcdc
        case ly => exact same
        case dma => exact dma
        case vbk => exact cgb _
        case bootOff => split <;> [exact same; exact boot]
        case bcps => exact cgb _
        case bcpd => exact palette _ _ _ (Or.inl rfl)
        case ocps => exact cgb _
        case ocpd => exact palette _ _ _ (Or.inr rfl)
        case svbk => exact cgb _
        all_goals exact ppu _ rfl rfl rfl rfl rfl rfl rfl

/-- The OAM copy changes `oam` and nothing else. -/
theorem dmaCopy_keeps_all (src : Word) (n i : Nat) (t : State) :
    dmaCopy src n i t = { t with mem := { t.mem with oam := (dmaCopy src n i t).mem.oam } } := by
  induction n generalizing i t with
  | zero => rfl
  | succ n ih => rw [dmaCopy, ih]; rfl

/-- A DMA start is the copy, then the window; the count stands as a variable, which no proof unfolds (R105). -/
theorem startDma_eq : ∃ n, n = 160 ∧ ∀ (v : Byte) (s : State), startDma v s =
    { dmaCopy (wordOf v 0) n 0 { s with dma := { s.dma with reg := v } } with
      dma := { (dmaCopy (wordOf v 0) n 0 { s with dma := { s.dma with reg := v } }).dma with cyclesLeft := 640 } } :=
  ⟨dmaLength, rfl, fun _ _ => rfl⟩

/-- What a DMA start leaves alone: everything but OAM, the register and the window. -/
theorem startDma_keeps (v : Byte) (s : State) :
    ∃ oam, startDma v s = { s with mem := { s.mem with oam := oam }, dma := ⟨v, 640⟩ } := by
  obtain ⟨n, -, e⟩ := startDma_eq
  rw [e, dmaCopy_keeps_all]
  exact ⟨_, rfl⟩

@[simp] theorem startDma_mem_oam_only (v : Byte) (s : State) (k : Store) (h : k ≠ .oam) :
    (startDma v s).mem.get k = s.mem.get k := by
  obtain ⟨oam, e⟩ := startDma_keeps v s
  rw [e]
  cases k <;> first | rfl | exact absurd rfl h

@[simp] theorem startDma_cpu (v : Byte) (s : State) : (startDma v s).cpu = s.cpu := by
  obtain ⟨oam, e⟩ := startDma_keeps v s
  rw [e]
@[simp] theorem startDma_irq (v : Byte) (s : State) : (startDma v s).irq = s.irq := by
  obtain ⟨oam, e⟩ := startDma_keeps v s
  rw [e]
@[simp] theorem startDma_timer (v : Byte) (s : State) : (startDma v s).timer = s.timer := by
  obtain ⟨oam, e⟩ := startDma_keeps v s
  rw [e]
@[simp] theorem startDma_joypad (v : Byte) (s : State) : (startDma v s).joypad = s.joypad := by
  obtain ⟨oam, e⟩ := startDma_keeps v s
  rw [e]
@[simp] theorem startDma_ppu (v : Byte) (s : State) : (startDma v s).ppu = s.ppu := by
  obtain ⟨oam, e⟩ := startDma_keeps v s
  rw [e]
@[simp] theorem startDma_cgb (v : Byte) (s : State) : (startDma v s).cgb = s.cgb := by
  obtain ⟨oam, e⟩ := startDma_keeps v s
  rw [e]
@[simp] theorem startDma_mapper (v : Byte) (s : State) : (startDma v s).mapper = s.mapper := by
  obtain ⟨oam, e⟩ := startDma_keeps v s
  rw [e]
@[simp] theorem startDma_bootMapped (v : Byte) (s : State) : (startDma v s).bootMapped = s.bootMapped := by
  obtain ⟨oam, e⟩ := startDma_keeps v s
  rw [e]
@[simp] theorem startDma_cfg (v : Byte) (s : State) : (startDma v s).cfg = s.cfg := by
  obtain ⟨oam, e⟩ := startDma_keeps v s
  rw [e]
@[simp] theorem startDma_freeCount (v : Byte) (s : State) : (startDma v s).freeCount = s.freeCount := by
  obtain ⟨oam, e⟩ := startDma_keeps v s
  rw [e]

/-- The LCDC write changes the PPU alone (R98). -/
theorem writeLcdc_keeps (v : Byte) (s : State) : writeLcdc v s = { s with ppu := (writeLcdc v s).ppu } := by
  unfold writeLcdc; split <;> [rfl; (split <;> rfl)]

@[simp] theorem writeLcdc_cpu (v : Byte) (s : State) : (writeLcdc v s).cpu = s.cpu := by rw [writeLcdc_keeps]
@[simp] theorem writeLcdc_irq (v : Byte) (s : State) : (writeLcdc v s).irq = s.irq := by rw [writeLcdc_keeps]
@[simp] theorem writeLcdc_timer (v : Byte) (s : State) : (writeLcdc v s).timer = s.timer := by rw [writeLcdc_keeps]
@[simp] theorem writeLcdc_joypad (v : Byte) (s : State) : (writeLcdc v s).joypad = s.joypad := by rw [writeLcdc_keeps]
@[simp] theorem writeLcdc_dma (v : Byte) (s : State) : (writeLcdc v s).dma = s.dma := by rw [writeLcdc_keeps]
@[simp] theorem writeLcdc_cgb (v : Byte) (s : State) : (writeLcdc v s).cgb = s.cgb := by rw [writeLcdc_keeps]
@[simp] theorem writeLcdc_mapper (v : Byte) (s : State) : (writeLcdc v s).mapper = s.mapper := by rw [writeLcdc_keeps]
@[simp] theorem writeLcdc_bootMapped (v : Byte) (s : State) : (writeLcdc v s).bootMapped = s.bootMapped := by rw [writeLcdc_keeps]
@[simp] theorem writeLcdc_mem (v : Byte) (s : State) : (writeLcdc v s).mem = s.mem := by rw [writeLcdc_keeps]
@[simp] theorem writeLcdc_cfg (v : Byte) (s : State) : (writeLcdc v s).cfg = s.cfg := by rw [writeLcdc_keeps]
@[simp] theorem writeLcdc_freeCount (v : Byte) (s : State) : (writeLcdc v s).freeCount = s.freeCount := by rw [writeLcdc_keeps]

/-- A bus write leaves the CPU alone. -/
@[simp] theorem memWrite_cpu (a : Word) (v : Byte) (s : State) : (memWrite a v s).cpu = s.cpu := by
  apply memWrite_cases (P := fun t => t.cpu = s.cpu)
  case lcdc => simp
  case dma => simp
  all_goals intros; rfl

@[simp] theorem memWrite_reg (a : Word) (v : Byte) (s : State) (r : R8) : (memWrite a v s).reg r = s.reg r := by
  simp [State.reg]

/-- A bus write leaves the parameters alone. -/
@[simp] theorem memWrite_cfg (a : Word) (v : Byte) (s : State) : (memWrite a v s).cfg = s.cfg := by
  apply memWrite_cases (P := fun t => t.cfg = s.cfg)
  case lcdc => simp
  case dma => simp
  all_goals intros; rfl

/-- A bus write is no free moment. -/
@[simp] theorem memWrite_freeCount (a : Word) (v : Byte) (s : State) : (memWrite a v s).freeCount = s.freeCount := by
  apply memWrite_cases (P := fun t => t.freeCount = s.freeCount)
  case lcdc => simp
  case dma => simp
  all_goals intros; rfl

/-- A bus write leaves the key latch alone. -/
@[simp] theorem memWrite_keys (a : Word) (v : Byte) (s : State) : (memWrite a v s).joypad.keys = s.joypad.keys := by
  apply memWrite_cases (P := fun t => t.joypad.keys = s.joypad.keys)
  case lcdc => simp
  case dma => simp
  all_goals intros; first | rfl | assumption

/-- A bus write keeps the mapper's kind. -/
@[simp] theorem memWrite_kind (a : Word) (v : Byte) (s : State) : (memWrite a v s).mapper.kind = s.mapper.kind := by
  apply memWrite_cases (P := fun t => t.mapper.kind = s.mapper.kind)
  case lcdc => simp
  case dma => simp
  all_goals intros; first | rfl | assumption

/-- A bus write never maps the boot ROM (R108). -/
theorem memWrite_bootMapped (a : Word) (v : Byte) (s : State) (h : s.bootMapped = false) :
    (memWrite a v s).bootMapped = false := by
  apply memWrite_cases (P := fun t => t.bootMapped = false)
  case lcdc => simpa using h
  case dma => simpa using h
  all_goals intros; first | assumption | rfl

/-- A bus write never changes an image or the framebuffer (R83). -/
theorem memWrite_mem (a : Word) (v : Byte) (s : State) (k : Store) (hk : Store.writable k = false) :
    (memWrite a v s).mem.get k = s.mem.get k := by
  apply memWrite_cases (P := fun t => t.mem.get k = s.mem.get k)
  case store => intro j i w hj; cases j <;> cases k <;> first | rfl | simp_all [Store.writable]
  case palette => rintro j i x (rfl | rfl) <;> cases k <;> first | rfl | simp_all [Store.writable]
  case dma => exact startDma_mem_oam_only _ _ _ (by rintro rfl; simp [Store.writable] at hk)
  case lcdc => simp
  all_goals intros; rfl

/-- A DMA start keeps every store canonical. -/
theorem startDma_storesWf (v : Byte) (s : State) (h : StoresWf s) : StoresWf (startDma v s) := by
  obtain ⟨n, -, e⟩ := startDma_eq
  rw [e]
  exact storesWf_congr _ _ rfl (dmaCopy_keeps StoresWf (fun t i w ht => storesWf_poke t .oam i w ht) (wordOf v 0) n 0
    { s with dma := { s.dma with reg := v } } (storesWf_congr s _ rfl h))

/-! ### A write does not look at the CPU -/

theorem dmaCopy_setCpu (src : Word) (n i : Nat) (s : State) (c : Cpu) :
    dmaCopy src n i { s with cpu := c } = { dmaCopy src n i s with cpu := c } := by
  induction n generalizing i s with
  | zero => rfl
  | succ n ih => rw [dmaCopy, dmaCopy, ← ih]; rfl

theorem startDma_setCpu (v : Byte) (s : State) (c : Cpu) :
    startDma v { s with cpu := c } = { startDma v s with cpu := c } := by
  obtain ⟨n, -, e⟩ := startDma_eq
  rw [e, e]
  have h := dmaCopy_setCpu (wordOf v 0) n 0 { s with dma := { s.dma with reg := v } } c
  dsimp only at h ⊢
  rw [h]

theorem writeLcdc_setCpu (v : Byte) (s : State) (c : Cpu) :
    writeLcdc v { s with cpu := c } = { writeLcdc v s with cpu := c } := by
  unfold writeLcdc
  dsimp only
  split
  · rfl
  · split <;> rfl

/-- A bus write commutes with any change of the CPU. -/
theorem memWrite_setCpu (a : Word) (v : Byte) (s : State) (c : Cpu) :
    memWrite a v { s with cpu := c } = { memWrite a v s with cpu := c } := by
  unfold memWrite
  cases Region.of a <;> dsimp only
  case vram => show (if locked s then _ else _) = _; split <;> rfl
  case oam => show (if locked s then _ else _) = _; split <;> rfl
  case cartRam =>
    split
    · unfold cartStore
      dsimp only
      split <;> rfl
    · rfl
  case io =>
    cases IoReg.ofAddr a with
    | none => rfl
    | some r =>
      dsimp only
      unfold ioWrite
      dsimp only
      split
      · rfl
      · cases r <;> dsimp only
        case lcdc => exact writeLcdc_setCpu v s c
        case dma => exact startDma_setCpu v s c
        case bootOff => split <;> rfl
        all_goals rfl
  all_goals rfl

/-- A bus write keeps every store canonical. -/
theorem memWrite_storesWf (a : Word) (v : Byte) (s : State) (h : StoresWf s) : StoresWf (memWrite a v s) := by
  apply memWrite_cases (P := StoresWf)
  case store => intro k i w _; exact storesWf_poke _ _ _ _ h
  case palette => intro k i x _; exact storesWf_congr _ _ rfl (storesWf_poke s k i v h)
  case dma => exact startDma_storesWf v s h
  case lcdc => exact storesWf_congr s _ (by simp) h
  all_goals intros; exact h

/-- A raw write of a register leaves the CPU alone. -/
theorem ioRawWrite_cpu (r : IoReg) (v : Byte) (s : State) : (ioRawWrite r v s).cpu = s.cpu := by
  cases r <;> unfold ioRawWrite <;> split <;> first
    | rfl
    | (dsimp only; unfold ioWrite; split <;> first | rfl | (dsimp only; split <;> rfl))

/-- A raw write leaves the CPU alone (R74). -/
@[simp] theorem rawWrite_cpu (a : Word) (v : Byte) (s : State) : (rawWrite a v s).cpu = s.cpu := by
  unfold rawWrite
  cases Region.of a <;> dsimp only
  case cartRam =>
    split
    · rfl
    · unfold cartStore; split <;> rfl
  case io =>
    split
    · exact ioRawWrite_cpu _ _ _
    · rfl
  all_goals rfl

end Sys2Proof.Machine
end

