-- ==== Sys2Proof/Laws/Cells.lean ====
section
/-! SUPPORT. Plain storage: what a write at an address that names a cell does, and which reads a poked cell can change. -/

namespace Sys2Proof.Machine

/-- The five stores plain storage lives in. -/
def Store.plain : Store → Bool
  | .vram | .cartRam | .wram | .oam | .hram => true
  | _ => false

theorem cellOf_plain (s : State) (a : Word) (k : Store) (i : Nat) (h : cellOf s a = some (k, i)) : k.plain = true := by
  have one : ∀ (k' : Store) (i' : Nat), k'.plain = true → some (k', i') = some (k, i) → k.plain = true := by
    rintro k' i' hp ⟨⟩
    exact hp
  unfold cellOf at h
  generalize Region.of a = g at h
  cases g <;> dsimp only at h <;> try (cases h; done)
  case cartRam =>
    split at h
    case isFalse => cases h
    case isTrue =>
      generalize s.mapper.ramPlace s.cfg.ramSize a.toNat = place at h
      cases place <;> dsimp only at h <;> first | (cases h; done) | exact one _ _ rfl h
  all_goals exact one _ _ rfl h

/-- Which cell an address names does not depend on the stores' contents. -/
@[simp] theorem cellOf_poke (s : State) (k : Store) (i : Nat) (w : Byte) (b : Word) :
    cellOf (s.poke k i w) b = cellOf s b := rfl

@[simp] theorem cellOf_cpu (s : State) (c : Cpu) (b : Word) : cellOf { s with cpu := c } b = cellOf s b := rfl

/-- A write at an address that names a cell changes that cell at most. -/
theorem memWrite_cell (s : State) (a : Word) (v : Byte) (k : Store) (i : Nat) (h : cellOf s a = some (k, i)) :
    memWrite a v s = s ∨ ∃ w, memWrite a v s = s.poke k i w := by
  unfold cellOf at h
  unfold memWrite
  generalize Region.of a = g at h ⊢
  cases g <;> dsimp only at h ⊢ <;> try (cases h; done)
  case vram => injection h with h; injection h with h1 h2; subst h1; subst h2; split <;> [exact .inl rfl; exact .inr ⟨v, rfl⟩]
  case wram => injection h with h; injection h with h1 h2; subst h1; subst h2; exact .inr ⟨v, rfl⟩
  case echo => injection h with h; injection h with h1 h2; subst h1; subst h2; exact .inr ⟨v, rfl⟩
  case oam => injection h with h; injection h with h1 h2; subst h1; subst h2; split <;> [exact .inl rfl; exact .inr ⟨v, rfl⟩]
  case hram => injection h with h; injection h with h1 h2; subst h1; subst h2; exact .inr ⟨v, rfl⟩
  case cartRam =>
    split at h
    case isFalse => cases h
    case isTrue hg =>
      rw [if_pos hg]
      unfold cartStore
      generalize s.mapper.ramPlace s.cfg.ramSize a.toNat = place at h ⊢
      cases place <;> dsimp only at h ⊢ <;> try (cases h; done)
      case cell off => injection h with h; injection h with h1 h2; subst h1; subst h2; exact .inr ⟨v, rfl⟩
      case nibble off => injection h with h; injection h with h1 h2; subst h1; subst h2; exact .inr ⟨_, rfl⟩

/-- Poking a cell changes no read of an address that names another cell. -/
theorem memRead_poke_other (s : State) (k : Store) (i : Nat) (w : Byte) (hk : k.plain = true) (port : ReadPort) (b : Word)
    (h : cellOf s b ≠ some (k, i)) : memRead port b (s.poke k i w) = memRead port b s := by
  have other : ∀ j n, (j, n) ≠ (k, i) → (s.poke k i w).peek j n = s.peek j n := fun j n hn => peek_poke_other s k j i n w hn
  have notPlain : ∀ j n, j.plain = false → (s.poke k i w).peek j n = s.peek j n := by
    intro j n hj
    refine other j n ?_
    rintro ⟨rfl, rfl⟩
    simp [hk] at hj
  by_cases window : 0 < s.dma.cyclesLeft ∧ Region.of b ≠ .hram
  · exact (if_pos window).trans (if_pos window).symm
  · refine (if_neg window).trans (Eq.trans ?_ (if_neg window).symm)
    unfold dispatchRead
    unfold cellOf at h
    have hl : locked (s.poke k i w) = locked s := rfl
    have hv : vramOffset b.toNat (s.poke k i w) = vramOffset b.toNat s := rfl
    have hw : ∀ n, wramOffset n (s.poke k i w) = wramOffset n s := fun _ => rfl
    have hb : bootOverlay b.toNat (s.poke k i w) = bootOverlay b.toNat s := rfl
    have h0 : romOffset0 b.toNat (s.poke k i w) = romOffset0 b.toNat s := rfl
    have hr : romOffsetN b.toNat (s.poke k i w) = romOffsetN b.toNat s := rfl
    clear window
    generalize Region.of b = g at h ⊢
    cases g <;> dsimp only at h ⊢
    case rom0 => rw [hb, h0]; split <;> exact notPlain _ _ rfl
    case romN => rw [hr]; exact notPlain _ _ rfl
    case vram => rw [hl, hv]; split <;> [rfl; exact other _ _ fun e => h (by rw [e])]
    case wram => rw [hw]; exact other _ _ fun e => h (by rw [e])
    case echo => rw [hw]; exact other _ _ fun e => h (by rw [e])
    case oam => rw [hl]; split <;> [rfl; exact other _ _ fun e => h (by rw [e])]
    case hram => exact other _ _ fun e => h (by rw [e])
    case unusable => rfl
    case ie => rfl
    case cartRam =>
      unfold cartRead
      by_cases hg : s.mapper.ramEnabled s.cfg.ramSize = true
      · rw [if_pos hg] at h
        refine (if_pos hg).trans (Eq.trans ?_ (if_pos hg).symm)
        unfold cartFetch
        simp only [poke_mapper, poke_cfg]
        generalize s.mapper.ramPlace s.cfg.ramSize b.toNat = place at h ⊢
        cases place <;> dsimp only at h ⊢
        case cell off => exact other _ _ fun e => h (by rw [e])
        case nibble off => rw [other _ _ fun e => h (by rw [e])]
      · exact (if_neg hg).trans (if_neg hg).symm
    case io =>
      cases IoReg.ofAddr b with
      | none => rfl
      | some r =>
        dsimp only
        unfold ioRead
        by_cases hc : (r.cgbOnly && !s.cfg.cgb) = true
        · exact (if_pos hc).trans (if_pos hc).symm
        · refine (if_neg hc).trans (Eq.trans ?_ (if_neg hc).symm)
          cases r <;> dsimp only
          case bcpd => exact notPlain .bgPalRam _ rfl
          case ocpd => exact notPlain .objPalRam _ rfl
          all_goals rfl

/-- A write at an address that names a cell changes no read of an address that names another. -/
theorem memRead_memWrite_other (s : State) (a b : Word) (v : Byte) (port : ReadPort) (ha : cellOf s a ≠ none)
    (h : cellOf s b ≠ cellOf s a) : memRead port b (memWrite a v s) = memRead port b s := by
  obtain ⟨⟨k, i⟩, e⟩ := Option.ne_none_iff_exists'.1 ha
  obtain e' | ⟨w, e'⟩ := memWrite_cell s a v k i e
  · rw [e']
  · rw [e']
    exact memRead_poke_other s k i w (cellOf_plain s a k i e) port b (by rwa [← e])

/-- A write at an address that names a cell leaves every address naming the cell it named. -/
theorem cellOf_memWrite (s : State) (a b : Word) (v : Byte) (ha : cellOf s a ≠ none) :
    cellOf (memWrite a v s) b = cellOf s b := by
  obtain ⟨⟨k, i⟩, e⟩ := Option.ne_none_iff_exists'.1 ha
  obtain e' | ⟨w, e'⟩ := memWrite_cell s a v k i e <;> rw [e']
  rfl

end Sys2Proof.Machine
end

