-- ==== Sys2Proof/Laws/Exec.lean ====
section
/-! SUPPORT. `exec` on each family builder of Syntax.lean: the shared operation all its instructions run. A single
instruction's `exec` is its operation by `rfl`. -/

namespace Sys2Proof.Machine

@[simp] theorem exec_ldPairNn (p : R16) (nn : Word) (s : State) : exec (.ldPairNn p nn) s = .next (loadPairImm p nn s) := by
  cases p <;> rfl
@[simp] theorem exec_incPair (p : R16) (s : State) : exec (.incPair p) s = .next (incPair p s) := by
  cases p <;> rfl
@[simp] theorem exec_decPair (p : R16) (s : State) : exec (.decPair p) s = .next (decPair p s) := by
  cases p <;> rfl
@[simp] theorem exec_addHLPair (p : R16) (s : State) : exec (.addHLPair p) s = .next (addHLPair p s) := by
  cases p <;> rfl
@[simp] theorem exec_incReg (r : R8) (s : State) : exec (.incReg r) s = .next (incReg r s) := by
  cases r <;> rfl
@[simp] theorem exec_decReg (r : R8) (s : State) : exec (.decReg r) s = .next (decReg r s) := by
  cases r <;> rfl
@[simp] theorem exec_ldRegN (r : R8) (n : Byte) (s : State) : exec (.ldRegN r n) s = .next (loadImm r n s) := by
  cases r <;> rfl
@[simp] theorem exec_jrCond (cc : Cond) (e : Byte) (s : State) : exec (.jrCond cc e) s = .next (jumpRelIf cc e s) := by
  cases cc <;> rfl
@[simp] theorem exec_ldRegReg (dst r : R8) (s : State) : exec (.ldRegReg dst r) s = .next (loadReg dst r s) := by
  cases dst <;> cases r <;> rfl
@[simp] theorem exec_ldRegInd (r : R8) (s : State) : exec (.ldRegInd r) s = .next (loadMem r s) := by
  cases r <;> rfl
@[simp] theorem exec_ldIndReg (r : R8) (s : State) : exec (.ldIndReg r) s = .next (storeReg r s) := by
  cases r <;> rfl
@[simp] theorem exec_aluReg (op : AluOp) (r : R8) (s : State) : exec (.aluReg op r) s = .next (aluReg op r s) := by
  cases op <;> cases r <;> rfl
@[simp] theorem exec_aluInd (op : AluOp) (s : State) : exec (.aluInd op) s = .next (aluMem op s) := by
  cases op <;> rfl
@[simp] theorem exec_aluN (op : AluOp) (n : Byte) (s : State) : exec (.aluN op n) s = .next (aluImm op n s) := by
  cases op <;> rfl
@[simp] theorem exec_retCond (cc : Cond) (s : State) : exec (.retCond cc) s = .next (returnIf cc s) := by
  cases cc <;> rfl
@[simp] theorem exec_jpCond (cc : Cond) (nn : Word) (s : State) : exec (.jpCond cc nn) s = .next (jumpAbsIf cc nn s) := by
  cases cc <;> rfl
@[simp] theorem exec_callCond (cc : Cond) (nn : Word) (s : State) : exec (.callCond cc nn) s = .next (callIf cc nn s) := by
  cases cc <;> rfl
@[simp] theorem exec_popStk (p : R16Stk) (s : State) : exec (.popStk p) s = .next (popPair p s) := by
  cases p <;> rfl
@[simp] theorem exec_pushStk (p : R16Stk) (s : State) : exec (.pushStk p) s = .next (pushPair p s) := by
  cases p <;> rfl
@[simp] theorem exec_rst (t : RstVec) (s : State) : exec (.rst t) s = .next (restart t s) := by
  cases t <;> rfl
@[simp] theorem exec_rotReg (op : RotOp) (r : R8) (s : State) : exec (.rotReg op r) s = .next (rotateReg op r s) := by
  cases op <;> cases r <;> rfl
@[simp] theorem exec_rotInd (op : RotOp) (s : State) : exec (.rotInd op) s = .next (rotateMem op s) := by
  cases op <;> rfl
@[simp] theorem exec_bitReg (b : BitNum) (r : R8) (s : State) : exec (.bitReg b r) s = .next (bitBitReg b r s) := by
  cases b <;> cases r <;> rfl
@[simp] theorem exec_bitInd (b : BitNum) (s : State) : exec (.bitInd b) s = .next (bitBitMem b s) := by
  cases b <;> rfl
@[simp] theorem exec_resReg (b : BitNum) (r : R8) (s : State) : exec (.resReg b r) s = .next (resBitReg b r s) := by
  cases b <;> cases r <;> rfl
@[simp] theorem exec_resInd (b : BitNum) (s : State) : exec (.resInd b) s = .next (resBitMem b s) := by
  cases b <;> rfl
@[simp] theorem exec_setReg (b : BitNum) (r : R8) (s : State) : exec (.setReg b r) s = .next (setBitReg b r s) := by
  cases b <;> cases r <;> rfl
@[simp] theorem exec_setInd (b : BitNum) (s : State) : exec (.setInd b) s = .next (setBitMem b s) := by
  cases b <;> rfl

/-- `exec` answers a next state for every instruction, on every state. -/
theorem exec_next (i : Instr) (s : State) : ∃ t, exec i s = .next t := by
  cases i <;> exact ⟨_, rfl⟩

end Sys2Proof.Machine
end

