-- ==== Sys2Proof/Laws/Families.lean ====
section
/-! SUPPORT. A claim about every instruction, by family: it is enough to show it of each builder of Syntax.lean and of each
instruction that stands alone. -/

namespace Sys2Proof

/-- Case analysis by family. -/
theorem Instr.by_family (P : Instr → Prop)
    (h_nop : P .nop)
    (h_ldPairNn : ∀ (p : R16) (nn : Word), P (.ldPairNn p nn))
    (h_ldIndBCA : P .ldIndBCA)
    (h_incPair : ∀ (p : R16), P (.incPair p))
    (h_incReg : ∀ (r : R8), P (.incReg r))
    (h_decReg : ∀ (r : R8), P (.decReg r))
    (h_ldRegN : ∀ (r : R8) (n : Byte), P (.ldRegN r n))
    (h_rlca : P .rlca)
    (h_ldIndNnSP : ∀ (nn : Word), P (.ldIndNnSP nn))
    (h_addHLPair : ∀ (p : R16), P (.addHLPair p))
    (h_ldAIndBC : P .ldAIndBC)
    (h_decPair : ∀ (p : R16), P (.decPair p))
    (h_rrca : P .rrca)
    (h_stop : ∀ (pad : Byte), P (.stop pad))
    (h_ldIndDEA : P .ldIndDEA)
    (h_rla : P .rla)
    (h_jr : ∀ (e : Byte), P (.jr e))
    (h_ldAIndDE : P .ldAIndDE)
    (h_rra : P .rra)
    (h_jrCond : ∀ (cc : Cond) (e : Byte), P (.jrCond cc e))
    (h_ldIndHLIncA : P .ldIndHLIncA)
    (h_daa : P .daa)
    (h_ldAIndHLInc : P .ldAIndHLInc)
    (h_cpl : P .cpl)
    (h_ldIndHLDecA : P .ldIndHLDecA)
    (h_incIndHL : P .incIndHL)
    (h_decIndHL : P .decIndHL)
    (h_ldIndHLn : ∀ (n : Byte), P (.ldIndHLn n))
    (h_scf : P .scf)
    (h_ldAIndHLDec : P .ldAIndHLDec)
    (h_ccf : P .ccf)
    (h_ldRegReg : ∀ (dst src : R8), P (.ldRegReg dst src))
    (h_ldRegInd : ∀ (r : R8), P (.ldRegInd r))
    (h_ldIndReg : ∀ (r : R8), P (.ldIndReg r))
    (h_halt : P .halt)
    (h_aluReg : ∀ (op : AluOp) (r : R8), P (.aluReg op r))
    (h_aluInd : ∀ (op : AluOp), P (.aluInd op))
    (h_retCond : ∀ (cc : Cond), P (.retCond cc))
    (h_popStk : ∀ (p : R16Stk), P (.popStk p))
    (h_jpCond : ∀ (cc : Cond) (nn : Word), P (.jpCond cc nn))
    (h_jp : ∀ (nn : Word), P (.jp nn))
    (h_callCond : ∀ (cc : Cond) (nn : Word), P (.callCond cc nn))
    (h_pushStk : ∀ (p : R16Stk), P (.pushStk p))
    (h_aluN : ∀ (op : AluOp) (n : Byte), P (.aluN op n))
    (h_rst : ∀ (t : RstVec), P (.rst t))
    (h_ret : P .ret)
    (h_call : ∀ (nn : Word), P (.call nn))
    (h_illegal : ∀ (op : Byte), P (.illegal op))
    (h_reti : P .reti)
    (h_ldhIndNA : ∀ (n : Byte), P (.ldhIndNA n))
    (h_ldhIndCA : P .ldhIndCA)
    (h_addSPe : ∀ (e : Byte), P (.addSPe e))
    (h_jpHL : P .jpHL)
    (h_ldIndNnA : ∀ (nn : Word), P (.ldIndNnA nn))
    (h_ldhAIndN : ∀ (n : Byte), P (.ldhAIndN n))
    (h_ldhAIndC : P .ldhAIndC)
    (h_di : P .di)
    (h_ldHLSPe : ∀ (e : Byte), P (.ldHLSPe e))
    (h_ldSPHL : P .ldSPHL)
    (h_ldAIndNn : ∀ (nn : Word), P (.ldAIndNn nn))
    (h_ei : P .ei)
    (h_rotReg : ∀ (op : RotOp) (r : R8), P (.rotReg op r))
    (h_rotInd : ∀ (op : RotOp), P (.rotInd op))
    (h_bitReg : ∀ (b : BitNum) (r : R8), P (.bitReg b r))
    (h_bitInd : ∀ (b : BitNum), P (.bitInd b))
    (h_resReg : ∀ (b : BitNum) (r : R8), P (.resReg b r))
    (h_resInd : ∀ (b : BitNum), P (.resInd b))
    (h_setReg : ∀ (b : BitNum) (r : R8), P (.setReg b r))
    (h_setInd : ∀ (b : BitNum), P (.setInd b)) :
    ∀ i, P i := by
  intro i
  cases i with
  | nop => exact h_nop
  | ldBCnn nn => exact h_ldPairNn .bc nn
  | ldIndBCA => exact h_ldIndBCA
  | incBC => exact h_incPair .bc
  | incB => exact h_incReg .b
  | decB => exact h_decReg .b
  | ldBn n => exact h_ldRegN .b n
  | rlca => exact h_rlca
  | ldIndNnSP nn => exact h_ldIndNnSP nn
  | addHLBC => exact h_addHLPair .bc
  | ldAIndBC => exact h_ldAIndBC
  | decBC => exact h_decPair .bc
  | incC => exact h_incReg .c
  | decC => exact h_decReg .c
  | ldCn n => exact h_ldRegN .c n
  | rrca => exact h_rrca
  | stop pad => exact h_stop pad
  | ldDEnn nn => exact h_ldPairNn .de nn
  | ldIndDEA => exact h_ldIndDEA
  | incDE => exact h_incPair .de
  | incD => exact h_incReg .d
  | decD => exact h_decReg .d
  | ldDn n => exact h_ldRegN .d n
  | rla => exact h_rla
  | jr e => exact h_jr e
  | addHLDE => exact h_addHLPair .de
  | ldAIndDE => exact h_ldAIndDE
  | decDE => exact h_decPair .de
  | incE => exact h_incReg .e
  | decE => exact h_decReg .e
  | ldEn n => exact h_ldRegN .e n
  | rra => exact h_rra
  | jrNZ e => exact h_jrCond .nz e
  | ldHLnn nn => exact h_ldPairNn .hl nn
  | ldIndHLIncA => exact h_ldIndHLIncA
  | incHL => exact h_incPair .hl
  | incH => exact h_incReg .h
  | decH => exact h_decReg .h
  | ldHn n => exact h_ldRegN .h n
  | daa => exact h_daa
  | jrZ e => exact h_jrCond .z e
  | addHLHL => exact h_addHLPair .hl
  | ldAIndHLInc => exact h_ldAIndHLInc
  | decHL => exact h_decPair .hl
  | incL => exact h_incReg .l
  | decL => exact h_decReg .l
  | ldLn n => exact h_ldRegN .l n
  | cpl => exact h_cpl
  | jrNC e => exact h_jrCond .nc e
  | ldSPnn nn => exact h_ldPairNn .sp nn
  | ldIndHLDecA => exact h_ldIndHLDecA
  | incSP => exact h_incPair .sp
  | incIndHL => exact h_incIndHL
  | decIndHL => exact h_decIndHL
  | ldIndHLn n => exact h_ldIndHLn n
  | scf => exact h_scf
  | jrC e => exact h_jrCond .c e
  | addHLSP => exact h_addHLPair .sp
  | ldAIndHLDec => exact h_ldAIndHLDec
  | decSP => exact h_decPair .sp
  | incA => exact h_incReg .a
  | decA => exact h_decReg .a
  | ldAn n => exact h_ldRegN .a n
  | ccf => exact h_ccf
  | ldBB => exact h_ldRegReg .b .b
  | ldBC => exact h_ldRegReg .b .c
  | ldBD => exact h_ldRegReg .b .d
  | ldBE => exact h_ldRegReg .b .e
  | ldBH => exact h_ldRegReg .b .h
  | ldBL => exact h_ldRegReg .b .l
  | ldBIndHL => exact h_ldRegInd .b
  | ldBA => exact h_ldRegReg .b .a
  | ldCB => exact h_ldRegReg .c .b
  | ldCC => exact h_ldRegReg .c .c
  | ldCD => exact h_ldRegReg .c .d
  | ldCE => exact h_ldRegReg .c .e
  | ldCH => exact h_ldRegReg .c .h
  | ldCL => exact h_ldRegReg .c .l
  | ldCIndHL => exact h_ldRegInd .c
  | ldCA => exact h_ldRegReg .c .a
  | ldDB => exact h_ldRegReg .d .b
  | ldDC => exact h_ldRegReg .d .c
  | ldDD => exact h_ldRegReg .d .d
  | ldDE => exact h_ldRegReg .d .e
  | ldDH => exact h_ldRegReg .d .h
  | ldDL => exact h_ldRegReg .d .l
  | ldDIndHL => exact h_ldRegInd .d
  | ldDA => exact h_ldRegReg .d .a
  | ldEB => exact h_ldRegReg .e .b
  | ldEC => exact h_ldRegReg .e .c
  | ldED => exact h_ldRegReg .e .d
  | ldEE => exact h_ldRegReg .e .e
  | ldEH => exact h_ldRegReg .e .h
  | ldEL => exact h_ldRegReg .e .l
  | ldEIndHL => exact h_ldRegInd .e
  | ldEA => exact h_ldRegReg .e .a
  | ldHB => exact h_ldRegReg .h .b
  | ldHC => exact h_ldRegReg .h .c
  | ldHD => exact h_ldRegReg .h .d
  | ldHE => exact h_ldRegReg .h .e
  | ldHH => exact h_ldRegReg .h .h
  | ldHL => exact h_ldRegReg .h .l
  | ldHIndHL => exact h_ldRegInd .h
  | ldHA => exact h_ldRegReg .h .a
  | ldLB => exact h_ldRegReg .l .b
  | ldLC => exact h_ldRegReg .l .c
  | ldLD => exact h_ldRegReg .l .d
  | ldLE => exact h_ldRegReg .l .e
  | ldLH => exact h_ldRegReg .l .h
  | ldLL => exact h_ldRegReg .l .l
  | ldLIndHL => exact h_ldRegInd .l
  | ldLA => exact h_ldRegReg .l .a
  | ldIndHLB => exact h_ldIndReg .b
  | ldIndHLC => exact h_ldIndReg .c
  | ldIndHLD => exact h_ldIndReg .d
  | ldIndHLE => exact h_ldIndReg .e
  | ldIndHLH => exact h_ldIndReg .h
  | ldIndHLL => exact h_ldIndReg .l
  | halt => exact h_halt
  | ldIndHLA => exact h_ldIndReg .a
  | ldAB => exact h_ldRegReg .a .b
  | ldAC => exact h_ldRegReg .a .c
  | ldAD => exact h_ldRegReg .a .d
  | ldAE => exact h_ldRegReg .a .e
  | ldAH => exact h_ldRegReg .a .h
  | ldAL => exact h_ldRegReg .a .l
  | ldAIndHL => exact h_ldRegInd .a
  | ldAA => exact h_ldRegReg .a .a
  | addAB => exact h_aluReg .add .b
  | addAC => exact h_aluReg .add .c
  | addAD => exact h_aluReg .add .d
  | addAE => exact h_aluReg .add .e
  | addAH => exact h_aluReg .add .h
  | addAL => exact h_aluReg .add .l
  | addAIndHL => exact h_aluInd .add
  | addAA => exact h_aluReg .add .a
  | adcAB => exact h_aluReg .adc .b
  | adcAC => exact h_aluReg .adc .c
  | adcAD => exact h_aluReg .adc .d
  | adcAE => exact h_aluReg .adc .e
  | adcAH => exact h_aluReg .adc .h
  | adcAL => exact h_aluReg .adc .l
  | adcAIndHL => exact h_aluInd .adc
  | adcAA => exact h_aluReg .adc .a
  | subB => exact h_aluReg .sub .b
  | subC => exact h_aluReg .sub .c
  | subD => exact h_aluReg .sub .d
  | subE => exact h_aluReg .sub .e
  | subH => exact h_aluReg .sub .h
  | subL => exact h_aluReg .sub .l
  | subIndHL => exact h_aluInd .sub
  | subA => exact h_aluReg .sub .a
  | sbcAB => exact h_aluReg .sbc .b
  | sbcAC => exact h_aluReg .sbc .c
  | sbcAD => exact h_aluReg .sbc .d
  | sbcAE => exact h_aluReg .sbc .e
  | sbcAH => exact h_aluReg .sbc .h
  | sbcAL => exact h_aluReg .sbc .l
  | sbcAIndHL => exact h_aluInd .sbc
  | sbcAA => exact h_aluReg .sbc .a
  | andB => exact h_aluReg .and .b
  | andC => exact h_aluReg .and .c
  | andD => exact h_aluReg .and .d
  | andE => exact h_aluReg .and .e
  | andH => exact h_aluReg .and .h
  | andL => exact h_aluReg .and .l
  | andIndHL => exact h_aluInd .and
  | andA => exact h_aluReg .and .a
  | xorB => exact h_aluReg .xor .b
  | xorC => exact h_aluReg .xor .c
  | xorD => exact h_aluReg .xor .d
  | xorE => exact h_aluReg .xor .e
  | xorH => exact h_aluReg .xor .h
  | xorL => exact h_aluReg .xor .l
  | xorIndHL => exact h_aluInd .xor
  | xorA => exact h_aluReg .xor .a
  | orB => exact h_aluReg .or .b
  | orC => exact h_aluReg .or .c
  | orD => exact h_aluReg .or .d
  | orE => exact h_aluReg .or .e
  | orH => exact h_aluReg .or .h
  | orL => exact h_aluReg .or .l
  | orIndHL => exact h_aluInd .or
  | orA => exact h_aluReg .or .a
  | cpB => exact h_aluReg .cp .b
  | cpC => exact h_aluReg .cp .c
  | cpD => exact h_aluReg .cp .d
  | cpE => exact h_aluReg .cp .e
  | cpH => exact h_aluReg .cp .h
  | cpL => exact h_aluReg .cp .l
  | cpIndHL => exact h_aluInd .cp
  | cpA => exact h_aluReg .cp .a
  | retNZ => exact h_retCond .nz
  | popBC => exact h_popStk .bc
  | jpNZ nn => exact h_jpCond .nz nn
  | jp nn => exact h_jp nn
  | callNZ nn => exact h_callCond .nz nn
  | pushBC => exact h_pushStk .bc
  | addAn n => exact h_aluN .add n
  | rst00 => exact h_rst .t00
  | retZ => exact h_retCond .z
  | ret => exact h_ret
  | jpZ nn => exact h_jpCond .z nn
  | callZ nn => exact h_callCond .z nn
  | call nn => exact h_call nn
  | adcAn n => exact h_aluN .adc n
  | rst08 => exact h_rst .t08
  | retNC => exact h_retCond .nc
  | popDE => exact h_popStk .de
  | jpNC nn => exact h_jpCond .nc nn
  | illegal op => exact h_illegal op
  | callNC nn => exact h_callCond .nc nn
  | pushDE => exact h_pushStk .de
  | subn n => exact h_aluN .sub n
  | rst10 => exact h_rst .t10
  | retC => exact h_retCond .c
  | reti => exact h_reti
  | jpC nn => exact h_jpCond .c nn
  | callC nn => exact h_callCond .c nn
  | sbcAn n => exact h_aluN .sbc n
  | rst18 => exact h_rst .t18
  | ldhIndNA n => exact h_ldhIndNA n
  | popHL => exact h_popStk .hl
  | ldhIndCA => exact h_ldhIndCA
  | pushHL => exact h_pushStk .hl
  | andn n => exact h_aluN .and n
  | rst20 => exact h_rst .t20
  | addSPe e => exact h_addSPe e
  | jpHL => exact h_jpHL
  | ldIndNnA nn => exact h_ldIndNnA nn
  | xorn n => exact h_aluN .xor n
  | rst28 => exact h_rst .t28
  | ldhAIndN n => exact h_ldhAIndN n
  | popAF => exact h_popStk .af
  | ldhAIndC => exact h_ldhAIndC
  | di => exact h_di
  | pushAF => exact h_pushStk .af
  | orn n => exact h_aluN .or n
  | rst30 => exact h_rst .t30
  | ldHLSPe e => exact h_ldHLSPe e
  | ldSPHL => exact h_ldSPHL
  | ldAIndNn nn => exact h_ldAIndNn nn
  | ei => exact h_ei
  | cpn n => exact h_aluN .cp n
  | rst38 => exact h_rst .t38
  | rlcB => exact h_rotReg .rlc .b
  | rlcC => exact h_rotReg .rlc .c
  | rlcD => exact h_rotReg .rlc .d
  | rlcE => exact h_rotReg .rlc .e
  | rlcH => exact h_rotReg .rlc .h
  | rlcL => exact h_rotReg .rlc .l
  | rlcIndHL => exact h_rotInd .rlc
  | rlcA => exact h_rotReg .rlc .a
  | rrcB => exact h_rotReg .rrc .b
  | rrcC => exact h_rotReg .rrc .c
  | rrcD => exact h_rotReg .rrc .d
  | rrcE => exact h_rotReg .rrc .e
  | rrcH => exact h_rotReg .rrc .h
  | rrcL => exact h_rotReg .rrc .l
  | rrcIndHL => exact h_rotInd .rrc
  | rrcA => exact h_rotReg .rrc .a
  | rlB => exact h_rotReg .rl .b
  | rlC => exact h_rotReg .rl .c
  | rlD => exact h_rotReg .rl .d
  | rlE => exact h_rotReg .rl .e
  | rlH => exact h_rotReg .rl .h
  | rlL => exact h_rotReg .rl .l
  | rlIndHL => exact h_rotInd .rl
  | rlA => exact h_rotReg .rl .a
  | rrB => exact h_rotReg .rr .b
  | rrC => exact h_rotReg .rr .c
  | rrD => exact h_rotReg .rr .d
  | rrE => exact h_rotReg .rr .e
  | rrH => exact h_rotReg .rr .h
  | rrL => exact h_rotReg .rr .l
  | rrIndHL => exact h_rotInd .rr
  | rrA => exact h_rotReg .rr .a
  | slaB => exact h_rotReg .sla .b
  | slaC => exact h_rotReg .sla .c
  | slaD => exact h_rotReg .sla .d
  | slaE => exact h_rotReg .sla .e
  | slaH => exact h_rotReg .sla .h
  | slaL => exact h_rotReg .sla .l
  | slaIndHL => exact h_rotInd .sla
  | slaA => exact h_rotReg .sla .a
  | sraB => exact h_rotReg .sra .b
  | sraC => exact h_rotReg .sra .c
  | sraD => exact h_rotReg .sra .d
  | sraE => exact h_rotReg .sra .e
  | sraH => exact h_rotReg .sra .h
  | sraL => exact h_rotReg .sra .l
  | sraIndHL => exact h_rotInd .sra
  | sraA => exact h_rotReg .sra .a
  | swapB => exact h_rotReg .swap .b
  | swapC => exact h_rotReg .swap .c
  | swapD => exact h_rotReg .swap .d
  | swapE => exact h_rotReg .swap .e
  | swapH => exact h_rotReg .swap .h
  | swapL => exact h_rotReg .swap .l
  | swapIndHL => exact h_rotInd .swap
  | swapA => exact h_rotReg .swap .a
  | srlB => exact h_rotReg .srl .b
  | srlC => exact h_rotReg .srl .c
  | srlD => exact h_rotReg .srl .d
  | srlE => exact h_rotReg .srl .e
  | srlH => exact h_rotReg .srl .h
  | srlL => exact h_rotReg .srl .l
  | srlIndHL => exact h_rotInd .srl
  | srlA => exact h_rotReg .srl .a
  | bit0B => exact h_bitReg .b0 .b
  | bit0C => exact h_bitReg .b0 .c
  | bit0D => exact h_bitReg .b0 .d
  | bit0E => exact h_bitReg .b0 .e
  | bit0H => exact h_bitReg .b0 .h
  | bit0L => exact h_bitReg .b0 .l
  | bit0IndHL => exact h_bitInd .b0
  | bit0A => exact h_bitReg .b0 .a
  | bit1B => exact h_bitReg .b1 .b
  | bit1C => exact h_bitReg .b1 .c
  | bit1D => exact h_bitReg .b1 .d
  | bit1E => exact h_bitReg .b1 .e
  | bit1H => exact h_bitReg .b1 .h
  | bit1L => exact h_bitReg .b1 .l
  | bit1IndHL => exact h_bitInd .b1
  | bit1A => exact h_bitReg .b1 .a
  | bit2B => exact h_bitReg .b2 .b
  | bit2C => exact h_bitReg .b2 .c
  | bit2D => exact h_bitReg .b2 .d
  | bit2E => exact h_bitReg .b2 .e
  | bit2H => exact h_bitReg .b2 .h
  | bit2L => exact h_bitReg .b2 .l
  | bit2IndHL => exact h_bitInd .b2
  | bit2A => exact h_bitReg .b2 .a
  | bit3B => exact h_bitReg .b3 .b
  | bit3C => exact h_bitReg .b3 .c
  | bit3D => exact h_bitReg .b3 .d
  | bit3E => exact h_bitReg .b3 .e
  | bit3H => exact h_bitReg .b3 .h
  | bit3L => exact h_bitReg .b3 .l
  | bit3IndHL => exact h_bitInd .b3
  | bit3A => exact h_bitReg .b3 .a
  | bit4B => exact h_bitReg .b4 .b
  | bit4C => exact h_bitReg .b4 .c
  | bit4D => exact h_bitReg .b4 .d
  | bit4E => exact h_bitReg .b4 .e
  | bit4H => exact h_bitReg .b4 .h
  | bit4L => exact h_bitReg .b4 .l
  | bit4IndHL => exact h_bitInd .b4
  | bit4A => exact h_bitReg .b4 .a
  | bit5B => exact h_bitReg .b5 .b
  | bit5C => exact h_bitReg .b5 .c
  | bit5D => exact h_bitReg .b5 .d
  | bit5E => exact h_bitReg .b5 .e
  | bit5H => exact h_bitReg .b5 .h
  | bit5L => exact h_bitReg .b5 .l
  | bit5IndHL => exact h_bitInd .b5
  | bit5A => exact h_bitReg .b5 .a
  | bit6B => exact h_bitReg .b6 .b
  | bit6C => exact h_bitReg .b6 .c
  | bit6D => exact h_bitReg .b6 .d
  | bit6E => exact h_bitReg .b6 .e
  | bit6H => exact h_bitReg .b6 .h
  | bit6L => exact h_bitReg .b6 .l
  | bit6IndHL => exact h_bitInd .b6
  | bit6A => exact h_bitReg .b6 .a
  | bit7B => exact h_bitReg .b7 .b
  | bit7C => exact h_bitReg .b7 .c
  | bit7D => exact h_bitReg .b7 .d
  | bit7E => exact h_bitReg .b7 .e
  | bit7H => exact h_bitReg .b7 .h
  | bit7L => exact h_bitReg .b7 .l
  | bit7IndHL => exact h_bitInd .b7
  | bit7A => exact h_bitReg .b7 .a
  | res0B => exact h_resReg .b0 .b
  | res0C => exact h_resReg .b0 .c
  | res0D => exact h_resReg .b0 .d
  | res0E => exact h_resReg .b0 .e
  | res0H => exact h_resReg .b0 .h
  | res0L => exact h_resReg .b0 .l
  | res0IndHL => exact h_resInd .b0
  | res0A => exact h_resReg .b0 .a
  | res1B => exact h_resReg .b1 .b
  | res1C => exact h_resReg .b1 .c
  | res1D => exact h_resReg .b1 .d
  | res1E => exact h_resReg .b1 .e
  | res1H => exact h_resReg .b1 .h
  | res1L => exact h_resReg .b1 .l
  | res1IndHL => exact h_resInd .b1
  | res1A => exact h_resReg .b1 .a
  | res2B => exact h_resReg .b2 .b
  | res2C => exact h_resReg .b2 .c
  | res2D => exact h_resReg .b2 .d
  | res2E => exact h_resReg .b2 .e
  | res2H => exact h_resReg .b2 .h
  | res2L => exact h_resReg .b2 .l
  | res2IndHL => exact h_resInd .b2
  | res2A => exact h_resReg .b2 .a
  | res3B => exact h_resReg .b3 .b
  | res3C => exact h_resReg .b3 .c
  | res3D => exact h_resReg .b3 .d
  | res3E => exact h_resReg .b3 .e
  | res3H => exact h_resReg .b3 .h
  | res3L => exact h_resReg .b3 .l
  | res3IndHL => exact h_resInd .b3
  | res3A => exact h_resReg .b3 .a
  | res4B => exact h_resReg .b4 .b
  | res4C => exact h_resReg .b4 .c
  | res4D => exact h_resReg .b4 .d
  | res4E => exact h_resReg .b4 .e
  | res4H => exact h_resReg .b4 .h
  | res4L => exact h_resReg .b4 .l
  | res4IndHL => exact h_resInd .b4
  | res4A => exact h_resReg .b4 .a
  | res5B => exact h_resReg .b5 .b
  | res5C => exact h_resReg .b5 .c
  | res5D => exact h_resReg .b5 .d
  | res5E => exact h_resReg .b5 .e
  | res5H => exact h_resReg .b5 .h
  | res5L => exact h_resReg .b5 .l
  | res5IndHL => exact h_resInd .b5
  | res5A => exact h_resReg .b5 .a
  | res6B => exact h_resReg .b6 .b
  | res6C => exact h_resReg .b6 .c
  | res6D => exact h_resReg .b6 .d
  | res6E => exact h_resReg .b6 .e
  | res6H => exact h_resReg .b6 .h
  | res6L => exact h_resReg .b6 .l
  | res6IndHL => exact h_resInd .b6
  | res6A => exact h_resReg .b6 .a
  | res7B => exact h_resReg .b7 .b
  | res7C => exact h_resReg .b7 .c
  | res7D => exact h_resReg .b7 .d
  | res7E => exact h_resReg .b7 .e
  | res7H => exact h_resReg .b7 .h
  | res7L => exact h_resReg .b7 .l
  | res7IndHL => exact h_resInd .b7
  | res7A => exact h_resReg .b7 .a
  | set0B => exact h_setReg .b0 .b
  | set0C => exact h_setReg .b0 .c
  | set0D => exact h_setReg .b0 .d
  | set0E => exact h_setReg .b0 .e
  | set0H => exact h_setReg .b0 .h
  | set0L => exact h_setReg .b0 .l
  | set0IndHL => exact h_setInd .b0
  | set0A => exact h_setReg .b0 .a
  | set1B => exact h_setReg .b1 .b
  | set1C => exact h_setReg .b1 .c
  | set1D => exact h_setReg .b1 .d
  | set1E => exact h_setReg .b1 .e
  | set1H => exact h_setReg .b1 .h
  | set1L => exact h_setReg .b1 .l
  | set1IndHL => exact h_setInd .b1
  | set1A => exact h_setReg .b1 .a
  | set2B => exact h_setReg .b2 .b
  | set2C => exact h_setReg .b2 .c
  | set2D => exact h_setReg .b2 .d
  | set2E => exact h_setReg .b2 .e
  | set2H => exact h_setReg .b2 .h
  | set2L => exact h_setReg .b2 .l
  | set2IndHL => exact h_setInd .b2
  | set2A => exact h_setReg .b2 .a
  | set3B => exact h_setReg .b3 .b
  | set3C => exact h_setReg .b3 .c
  | set3D => exact h_setReg .b3 .d
  | set3E => exact h_setReg .b3 .e
  | set3H => exact h_setReg .b3 .h
  | set3L => exact h_setReg .b3 .l
  | set3IndHL => exact h_setInd .b3
  | set3A => exact h_setReg .b3 .a
  | set4B => exact h_setReg .b4 .b
  | set4C => exact h_setReg .b4 .c
  | set4D => exact h_setReg .b4 .d
  | set4E => exact h_setReg .b4 .e
  | set4H => exact h_setReg .b4 .h
  | set4L => exact h_setReg .b4 .l
  | set4IndHL => exact h_setInd .b4
  | set4A => exact h_setReg .b4 .a
  | set5B => exact h_setReg .b5 .b
  | set5C => exact h_setReg .b5 .c
  | set5D => exact h_setReg .b5 .d
  | set5E => exact h_setReg .b5 .e
  | set5H => exact h_setReg .b5 .h
  | set5L => exact h_setReg .b5 .l
  | set5IndHL => exact h_setInd .b5
  | set5A => exact h_setReg .b5 .a
  | set6B => exact h_setReg .b6 .b
  | set6C => exact h_setReg .b6 .c
  | set6D => exact h_setReg .b6 .d
  | set6E => exact h_setReg .b6 .e
  | set6H => exact h_setReg .b6 .h
  | set6L => exact h_setReg .b6 .l
  | set6IndHL => exact h_setInd .b6
  | set6A => exact h_setReg .b6 .a
  | set7B => exact h_setReg .b7 .b
  | set7C => exact h_setReg .b7 .c
  | set7D => exact h_setReg .b7 .d
  | set7E => exact h_setReg .b7 .e
  | set7H => exact h_setReg .b7 .h
  | set7L => exact h_setReg .b7 .l
  | set7IndHL => exact h_setInd .b7
  | set7A => exact h_setReg .b7 .a

end Sys2Proof
end

