-- ==== Sys2Proof/Laws/Timing.lean ====
section
/-! SUPPORT. The cycle count of an instruction from its bytes, under the default table. -/

namespace Sys2Proof.Machine

/-- Under the default table the count is the grid's, by page and opcode (R470). -/
theorem cycleCount_default (i : Instr) (s : State) (hs : s.cfg.cycles = []) (hi : ∀ b, i ≠ .illegal b) :
    cycleCount i s = if branchTaken i s then (defaultCost (opcodeKey i).1 (opcodeKey i).2).2
      else (defaultCost (opcodeKey i).1 (opcodeKey i).2).1 := by
  unfold cycleCount
  split
  · exact absurd rfl (hi _)
  · simp [costOf, hs]

/-- The key of an instruction of the primary page. -/
theorem opcodeKey_primary (i : Instr) (op : Byte) (rest : List Byte) (he : encode i = op :: rest) (hop : op ≠ 0xCB) :
    opcodeKey i = (false, op) := by
  unfold opcodeKey
  rw [he]
  exact if_neg hop

/-- An unconditional instruction of the primary page. -/
theorem costs_primary (i : Instr) (op : Byte) (rest : List Byte) (n : Nat) (he : encode i = op :: rest) (hop : op ≠ 0xCB)
    (hc : condOf i = none) (hi : ∀ b, i ≠ .illegal b) (hn : (primaryCost op).1 = n) : Costs i n := by
  intro s hs
  rw [cycleCount_default i s hs hi]
  simp [branchTaken, hc, opcodeKey_primary i op rest he hop, defaultCost, hn]

/-- An instruction of the CB page. -/
theorem costs_cb (i : Instr) (op2 : Byte) (n : Nat) (he : encode i = [0xCB, op2]) (hi : ∀ b, i ≠ .illegal b)
    (hn : cbCost op2 = n) : Costs i n := by
  intro s hs
  rw [cycleCount_default i s hs hi]
  simp [opcodeKey, he, defaultCost, hn]

/-- A conditional instruction. -/
theorem costs_branch (i : Instr) (cc : Cond) (op : Byte) (rest : List Byte) (m n : Nat) (he : encode i = op :: rest)
    (hop : op ≠ 0xCB) (hc : condOf i = some cc) (hi : ∀ b, i ≠ .illegal b) (hn : primaryCost op = (m, n)) :
    CostsBranch i cc m n := by
  intro s hs
  rw [cycleCount_default i s hs hi]
  simp [branchTaken, hc, opcodeKey_primary i op rest he hop, defaultCost, hn]

/-- An illegal opcode bills nothing under any table (R380). -/
@[simp] theorem cycleCount_illegal (op : Byte) (s : State) : cycleCount (.illegal op) s = 0 := rfl

end Sys2Proof.Machine
end

