-- ==== Sys2Proof/Laws/Ops.lean ====
section
/-! SUPPORT. What each shared operation can do, once: words and bytes, registers and pairs, the stack, the flags byte, the
8-bit and 16-bit arithmetic, one bus write, and the frames of Safety.lean for each. -/

namespace Sys2Proof.Machine

/-! ### Words and bytes -/

theorem hiByte_toNat (w : Word) : (hiByte w).toNat = w.toNat / 256 := by
  simp [hiByte, Nat.shiftRight_eq_div_pow]; omega

theorem loByte_toNat (w : Word) : (loByte w).toNat = w.toNat % 256 := by simp [loByte]

theorem wordOf_toNat (h l : Byte) : (wordOf h l).toNat = 256 * h.toNat + l.toNat := by
  unfold wordOf
  rw [BitVec.toNat_append, ← Nat.shiftLeft_add_eq_or_of_lt (by omega), Nat.shiftLeft_eq]; omega

theorem wordOf_hi_lo (w : Word) : wordOf (hiByte w) (loByte w) = w := by
  apply BitVec.eq_of_toNat_eq
  rw [wordOf_toNat, hiByte_toNat, loByte_toNat]; omega

theorem opByte_lo (w : Word) : opByte (w.toNat % 256) = loByte w := by
  apply BitVec.eq_of_toNat_eq; simp [opByte, loByte]

theorem opByte_hi (w : Word) : opByte (w.toNat / 256) = hiByte w := by
  apply BitVec.eq_of_toNat_eq; simp [opByte, hiByte, Nat.shiftRight_eq_div_pow]

theorem wordBytes_eq (nn : Word) : wordBytes nn = [loByte nn, hiByte nn] := by
  rw [wordBytes, opByte_lo, opByte_hi]

theorem highPage_eq (n : Byte) : highPage n = BitVec.ofNat 16 (0xFF00 + n.toNat) := by
  revert n; decide

theorem displacement_add_toNat (w : Word) (e : Byte) :
    (w + displacement e).toNat = (((w.toNat : Int) + e.toInt) % 65536).toNat := by
  unfold displacement
  rw [BitVec.toNat_add, BitVec.signExtend, BitVec.toNat_ofInt]
  omega

theorem beq_zero_iff_toNat (x : Byte) (n : Nat) (h : x.toNat = n) : ((x == 0) = true) ↔ n = 0 := by
  rw [beq_iff_eq, ← h]
  exact ⟨fun h => h ▸ rfl, fun h => BitVec.eq_of_toNat_eq h⟩

/-! ### Frames of a state that differs in the CPU alone -/

theorem keepsRest_of_cpu (s t : State) (h : t = { s with cpu := t.cpu }) : KeepsRest s t :=
  ⟨h, fun p a => by rw [h]; rfl⟩

theorem onlyRegs_setReg (s : State) (r : R8) (v : Byte) : OnlyRegs [r] s (s.setReg r v) := by
  refine ⟨⟨fun q hq => reg_setReg_other _ _ _ _ (by simpa using hq), ?_, ?_, ?_⟩, keepsRest_of_cpu _ _ rfl⟩
  all_goals simp [KeepsSp, KeepsPc, KeepsLatches]

theorem onlyRegs_setReg_setF (s : State) (r : R8) (v f : Byte) : OnlyRegs [r] s ((s.setReg r v).setF f) := by
  refine ⟨⟨?_, ?_, ?_, ?_⟩, keepsRest_of_cpu _ _ rfl⟩
  · intro q hq; simp at hq; simp [reg_setReg, hq]
  all_goals simp [KeepsSp, KeepsPc, KeepsLatches]

theorem onlyRegs_setF (s : State) (rs : List R8) (f : Byte) : OnlyRegs rs s (s.setF f) := by
  refine ⟨⟨?_, ?_, ?_, ?_⟩, keepsRest_of_cpu _ _ rfl⟩
  · intro q hq; simp
  all_goals simp [KeepsSp, KeepsPc, KeepsLatches]

theorem pair_setPair (s : State) (p : R16) (v : Word) : (s.setPair p v).pair p = v := by
  cases p
  case sp => rfl
  all_goals exact wordOf_hi_lo v

theorem onlyPair_setPair (s : State) (p : R16) (v : Word) :
    OnlyPair p s (s.setPair p v) ∧ KeepsF s (s.setPair p v) := by
  refine ⟨⟨?_, ?_, ?_, ?_, ?_⟩, ?_⟩
  · intro r hr; cases p <;> simp [pairRegs] at hr <;> simp [State.setPair, reg_setReg, hr]
  · intro hp; cases p <;> simp [State.setPair, KeepsSp] at hp ⊢
  · cases p <;> simp [State.setPair, KeepsPc]
  · cases p <;> simp [State.setPair, KeepsLatches]
  · apply keepsRest_of_cpu; cases p <;> rfl
  · cases p <;> simp [State.setPair, KeepsF]

theorem onlyRegs_setPair_hl_setF (s : State) (v : Word) (f : Byte) :
    OnlyRegs [.h, .l] s ((s.setPair .hl v).setF f) := by
  refine ⟨⟨?_, ?_, ?_, ?_⟩, keepsRest_of_cpu _ _ rfl⟩
  · intro r hr; simp at hr; simp [State.setPair, reg_setReg, hr]
  all_goals simp [KeepsSp, KeepsPc, KeepsLatches, State.setPair]

theorem onlyPc_setPc (s : State) (v : Word) : OnlyPc s (s.setPc v) :=
  ⟨fun r _ => by cases r <;> rfl, rfl, rfl, ⟨rfl, rfl, rfl, rfl, rfl, rfl⟩, keepsRest_of_cpu _ _ rfl⟩

theorem onlyPc_refl (s : State) : OnlyPc s s :=
  ⟨fun _ _ => rfl, rfl, rfl, ⟨rfl, rfl, rfl, rfl, rfl, rfl⟩, keepsRest_of_cpu _ _ rfl⟩

/-! ### Flags -/

theorem flagsAre_setF (z n h c : Bool) (Z N H C : Prop) (hz : z = true ↔ Z) (hn : n = true ↔ N) (hh : h = true ↔ H)
    (hc : c = true ↔ C) (s : State) : FlagsAre Z N H C (s.setF (flagsByte z n h c)) := by
  simp only [FlagsAre, State.flagZ, State.flagN, State.flagH, State.flagC, setF_f, ← hz, ← hn, ← hh, ← hc]
  revert z n h c
  have : ∀ z n h c : Bool, ((flagsByte z n h c).getLsbD 7 = true ↔ z = true) ∧
      ((flagsByte z n h c).getLsbD 6 = true ↔ n = true) ∧ ((flagsByte z n h c).getLsbD 5 = true ↔ h = true) ∧
      ((flagsByte z n h c).getLsbD 4 = true ↔ c = true) ∧ (flagsByte z n h c).extractLsb' 0 4 = 0 := by decide
  exact fun z n h c _ _ _ _ => this z n h c

theorem flagsByte_low (z n h c : Bool) : (flagsByte z n h c).extractLsb' 0 4 = 0 := by
  revert z n h c; decide

/-! ### Arithmetic -/

theorem add8_toNat (a b : Byte) (c : Bool) : (add8 a b c).value.toNat = (a.toNat + b.toNat + c.toNat) % 256 := by
  simp [add8]

theorem sub8_toNat (a b : Byte) (c : Bool) :
    (sub8 a b c).value.toNat = (a.toNat + 512 - b.toNat - c.toNat) % 256 := by
  simp only [sub8, BitVec.toNat_ofInt]
  have := a.isLt; have := b.isLt; have : c.toNat ≤ 1 := by cases c <;> simp
  omega

theorem inc8_toNat (a : Byte) (c : Bool) : (inc8 a c).value.toNat = (a.toNat + 1) % 256 := by
  simp [inc8, BitVec.toNat_add]

theorem dec8_toNat (a : Byte) (c : Bool) : (dec8 a c).value.toNat = (a.toNat + 255) % 256 := by
  simp [dec8, BitVec.toNat_sub]; omega

theorem rotate_spec (op : RotOp) (v : Byte) (c : Bool) :
    ((rotate op v c).1.toNat, (rotate op v c).2) = rotSpec op v.toNat c := by
  cases op <;> revert v c <;> decide

/-! ### One bus write, the stack -/

theorem storesByte_memWrite (a : Word) (v : Byte) (s : State) (c : Cpu) :
    StoresByte a v s { memWrite a v s with cpu := c } := by
  refine ⟨rfl, fun h port b hb => ?_⟩
  rw [memRead_cpu]
  exact memRead_memWrite_other s a b v port h (hb a (by simp))

theorem keepsCpu_memWrite (a : Word) (v : Byte) (s : State) : KeepsCpu [] s (memWrite a v s) :=
  ⟨fun r _ => by simp, by simp [KeepsSp], by simp [KeepsPc], by simp [KeepsLatches]⟩

theorem keepsCells_twoWrites (a b : Word) (v w : Byte) (s : State) (c : Cpu) (ha : cellOf s a ≠ none)
    (hb : cellOf s b ≠ none) : KeepsCells [a, b] s { memWrite b w (memWrite a v s) with cpu := c } := by
  intro port x hx
  rw [memRead_cpu, memRead_memWrite_other _ _ _ _ _ (by rw [cellOf_memWrite _ _ _ _ ha]; exact hb),
    memRead_memWrite_other _ _ _ _ _ ha (hx a (by simp))]
  rw [cellOf_memWrite _ _ _ _ ha, cellOf_memWrite _ _ _ _ ha]; exact hx b (by simp)

/-- `Push16` in one expression: the two bus writes and SP. -/
theorem push16_eq (w : Word) (s : State) :
    push16 w s = { memWrite (s.cpu.sp - 2) (loByte w) (memWrite (s.cpu.sp - 1) (hiByte w) s) with
      cpu := { s.cpu with sp := s.cpu.sp - 2 } } := by
  have h2 : s.cpu.sp - 1 - 1 = s.cpu.sp - 2 := by bv_omega
  unfold push16
  simp only [State.setSp, memWrite_setCpu, h2]

/-- `Push16` from a state given as a machine and its CPU. -/
theorem push16_setCpu (w : Word) (q : State) (c : Cpu) :
    push16 w { q with cpu := c } = { memWrite (c.sp - 2) (loByte w) (memWrite (c.sp - 1) (hiByte w) q) with
      cpu := { c with sp := c.sp - 2 } } := by
  rw [push16_eq]
  dsimp only
  rw [memWrite_setCpu (c.sp - 1) (hiByte w) q c,
    memWrite_setCpu (c.sp - 2) (loByte w) (memWrite (c.sp - 1) (hiByte w) q) c]

/-- Taking an interrupt, in one expression: the IF bit goes first, then the push, then PC and the latches. -/
theorem dispatch_eq (i : Source) (s : State) :
    dispatch i s =
      { memWrite (s.cpu.sp - 2) (loByte s.cpu.pc) (memWrite (s.cpu.sp - 1) (hiByte s.cpu.pc)
          { s with irq := { s.irq with ifReg := s.irq.ifReg &&& ~~~i.bit } }) with
        cpu := { s.cpu with ime := false, eiPending := false, halted := false, haltBug := false, sp := s.cpu.sp - 2
                            pc := i.vector }
        freeCount := s.freeCount + 1 } := by
  have h := push16_setCpu s.cpu.pc { s with irq := { s.irq with ifReg := s.irq.ifReg &&& ~~~i.bit } }
    { s.cpu with ime := false, eiPending := false, halted := false, haltBug := false }
  have hf : (memWrite (s.cpu.sp - 2) (loByte s.cpu.pc) (memWrite (s.cpu.sp - 1) (hiByte s.cpu.pc)
      { s with irq := { s.irq with ifReg := s.irq.ifReg &&& ~~~i.bit } })).freeCount = s.freeCount := by
    rw [memWrite_freeCount, memWrite_freeCount]
  unfold dispatch
  dsimp only [State.setIme, State.setEiPending, State.setHalted, State.setHaltBug, State.setPc] at h ⊢
  rw [h]
  dsimp only
  rw [hf]

theorem pushesWord_push16 (w : Word) (s : State) : PushesWord w s (push16 w s) := by
  rw [push16_eq]
  refine ⟨rfl, by rw [opByte_lo, opByte_hi], fun h1 h2 => ?_⟩
  exact keepsCells_twoWrites (s.cpu.sp - 1) (s.cpu.sp - 2) (hiByte w) (loByte w) s { s.cpu with sp := s.cpu.sp - 2 } h1 h2

theorem popValue_of_top (s : State) (w : Word) (h : TopOfStack s w) : popValue s = w := by
  apply BitVec.eq_of_toNat_eq
  rw [popValue, wordOf_toNat, h]; omega

end Sys2Proof.Machine
end

