-- ==== Sys2Proof/Laws/Keeps.lean ====
section
/-! SUPPORT. What any instruction can do to the machine, once: it changes the CPU, keeping F's low nibble clear, and it writes
bytes through the bus, and nothing else; only the six system instructions touch IME and the latches. A property that both keep,
every instruction keeps. -/

namespace Sys2Proof.Machine

/-- IME and the latches of two CPUs agree. -/
def LatchesKept (c d : Cpu) : Prop :=
  d.ime = c.ime ∧ d.halted = c.halted ∧ d.stopped = c.stopped ∧ d.eiPending = c.eiPending ∧ d.haltBug = c.haltBug ∧
  d.crashed = c.crashed

theorem latchesKept_rfl (c : Cpu) : LatchesKept c c := ⟨rfl, rfl, rfl, rfl, rfl, rfl⟩

/-- The instructions that write IME or a latch. -/
def isSystem : Instr → Bool
  | .halt | .stop _ | .di | .ei | .reti | .illegal _ => true
  | _ => false

theorem isSystem_cases (i : Instr) (h : isSystem i = true) :
    i = .halt ∨ (∃ p, i = .stop p) ∨ i = .di ∨ i = .ei ∨ i = .reti ∨ ∃ b, i = .illegal b := by
  unfold isSystem at h
  split at h <;> simp_all

section
variable (P : State → Prop)
  (cpu : ∀ (s : State) (c : Cpu), (s.cpu.f.extractLsb' 0 4 = 0 → c.f.extractLsb' 0 4 = 0) → LatchesKept s.cpu c → P s →
    P { s with cpu := c })
  (write : ∀ (s : State) (a : Word) (v : Byte), P s → P (memWrite a v s))

include cpu in
theorem keeps_setReg (s : State) (r : R8) (v : Byte) (h : P s) : P (s.setReg r v) :=
  cpu s _ (by cases r <;> exact id) (by cases r <;> exact latchesKept_rfl _) h

include cpu in
theorem keeps_setFlags (s : State) (z n hc c : Bool) (h : P s) : P (s.setFlags z n hc c) :=
  cpu s _ (fun _ => flagsByte_low z n hc c) (latchesKept_rfl _) h

include cpu in
theorem keeps_setPc (s : State) (v : Word) (h : P s) : P (s.setPc v) := cpu s _ id (latchesKept_rfl _) h

include cpu in
theorem keeps_setSp (s : State) (v : Word) (h : P s) : P (s.setSp v) := cpu s _ id (latchesKept_rfl _) h

include cpu in
theorem keeps_setPair (s : State) (p : R16) (v : Word) (h : P s) : P (s.setPair p v) := by
  cases p
  case sp => exact keeps_setSp P cpu s v h
  all_goals exact keeps_setReg P cpu _ _ _ (keeps_setReg P cpu _ _ _ h)

include cpu in
theorem keeps_setAluFlags (s : State) (r : Alu8) (h : P s) : P (setAluFlags r s) := keeps_setFlags P cpu s _ _ _ _ h

include cpu write in
theorem keeps_push16 (w : Word) (s : State) (h : P s) : P (push16 w s) :=
  write _ _ _ (keeps_setSp P cpu _ _ (write _ _ _ (keeps_setSp P cpu _ _ h)))

include cpu in
theorem keeps_aluApply (op : AluOp) (b : Byte) (s : State) (h : P s) : P (aluApply op b s) := by
  unfold aluApply; dsimp only; split
  · exact keeps_setAluFlags P cpu _ _ (keeps_setReg P cpu _ _ _ h)
  · exact keeps_setAluFlags P cpu _ _ h

include cpu write in
/-- Every instruction but the system ones keeps a property that bus writes and CPU changes outside the latches keep. -/
theorem exec_cases (i : Instr) (s t : State) (hs : P s) (h : exec i s = .next t) (system : isSystem i = true → P t) : P t := by
  have reg := keeps_setReg P cpu
  have flags := keeps_setFlags P cpu
  have pair := keeps_setPair P cpu
  have pc := keeps_setPc P cpu
  have sp := keeps_setSp P cpu
  have alu := keeps_setAluFlags P cpu
  have push := keeps_push16 P cpu write
  have call : ∀ (nn : Word) (s : State), P s → P (doCall nn s) := fun nn s h => pc _ _ (push _ _ h)
  have ret : ∀ s : State, P s → P (doReturn s) := fun s h => pc _ _ (sp _ _ h)
  revert h system
  induction i using Instr.by_family
  case h_nop => rintro ⟨⟩ _; exact hs
  case h_ldPairNn p nn => intro h _; rw [exec_ldPairNn] at h; cases h; exact pair _ _ _ hs
  case h_ldIndBCA => rintro ⟨⟩ _; exact write _ _ _ hs
  case h_incPair p => intro h _; rw [exec_incPair] at h; cases h; exact pair _ _ _ hs
  case h_incReg r => intro h _; rw [exec_incReg] at h; cases h; exact alu _ _ (reg _ _ _ hs)
  case h_decReg r => intro h _; rw [exec_decReg] at h; cases h; exact alu _ _ (reg _ _ _ hs)
  case h_ldRegN r n => intro h _; rw [exec_ldRegN] at h; cases h; exact reg _ _ _ hs
  case h_rlca => rintro ⟨⟩ _; exact flags _ _ _ _ _ (reg _ _ _ hs)
  case h_ldIndNnSP nn => rintro ⟨⟩ _; exact write _ _ _ (write _ _ _ hs)
  case h_addHLPair p => intro h _; rw [exec_addHLPair] at h; cases h; exact flags _ _ _ _ _ (pair _ _ _ hs)
  case h_ldAIndBC => rintro ⟨⟩ _; exact reg _ _ _ hs
  case h_decPair p => intro h _; rw [exec_decPair] at h; cases h; exact pair _ _ _ hs
  case h_rrca => rintro ⟨⟩ _; exact flags _ _ _ _ _ (reg _ _ _ hs)
  case h_stop pad => intro _ system; exact system rfl
  case h_ldIndDEA => rintro ⟨⟩ _; exact write _ _ _ hs
  case h_rla => rintro ⟨⟩ _; exact flags _ _ _ _ _ (reg _ _ _ hs)
  case h_jr e => rintro ⟨⟩ _; exact pc _ _ hs
  case h_ldAIndDE => rintro ⟨⟩ _; exact reg _ _ _ hs
  case h_rra => rintro ⟨⟩ _; exact flags _ _ _ _ _ (reg _ _ _ hs)
  case h_jrCond cc e =>
    intro h _; rw [exec_jrCond] at h; cases h; unfold jumpRelIf; split
    · exact pc _ _ hs
    · exact hs
  case h_ldIndHLIncA => rintro ⟨⟩ _; exact pair _ _ _ (write _ _ _ hs)
  case h_daa => rintro ⟨⟩ _; exact alu _ _ (reg _ _ _ hs)
  case h_ldAIndHLInc => rintro ⟨⟩ _; exact pair _ _ _ (reg _ _ _ hs)
  case h_cpl => rintro ⟨⟩ _; exact flags _ _ _ _ _ (reg _ _ _ hs)
  case h_ldIndHLDecA => rintro ⟨⟩ _; exact pair _ _ _ (write _ _ _ hs)
  case h_incIndHL => rintro ⟨⟩ _; exact alu _ _ (write _ _ _ hs)
  case h_decIndHL => rintro ⟨⟩ _; exact alu _ _ (write _ _ _ hs)
  case h_ldIndHLn n => rintro ⟨⟩ _; exact write _ _ _ hs
  case h_scf => rintro ⟨⟩ _; exact flags _ _ _ _ _ hs
  case h_ldAIndHLDec => rintro ⟨⟩ _; exact pair _ _ _ (reg _ _ _ hs)
  case h_ccf => rintro ⟨⟩ _; exact flags _ _ _ _ _ hs
  case h_ldRegReg dst src => intro h _; rw [exec_ldRegReg] at h; cases h; exact reg _ _ _ hs
  case h_ldRegInd r => intro h _; rw [exec_ldRegInd] at h; cases h; exact reg _ _ _ hs
  case h_ldIndReg r => intro h _; rw [exec_ldIndReg] at h; cases h; exact write _ _ _ hs
  case h_halt => intro _ system; exact system rfl
  case h_aluReg op r => intro h _; rw [exec_aluReg] at h; cases h; exact keeps_aluApply P cpu _ _ _ hs
  case h_aluInd op => intro h _; rw [exec_aluInd] at h; cases h; exact keeps_aluApply P cpu _ _ _ hs
  case h_retCond cc =>
    intro h _; rw [exec_retCond] at h; cases h; unfold returnIf; split
    · exact ret _ hs
    · exact hs
  case h_popStk p =>
    intro h _; rw [exec_popStk] at h; cases h
    cases p
    case af =>
      refine cpu (((afterPop s).setReg .a (hiByte (popValue s)))) _ (fun _ => ?_) (latchesKept_rfl _) (reg _ _ _ (sp _ _ hs))
      exact (by decide : ∀ b : Byte, (b &&& 0xF0).extractLsb' 0 4 = 0) _
    case bc => exact pair _ .bc _ (sp _ _ hs)
    case de => exact pair _ .de _ (sp _ _ hs)
    case hl => exact pair _ .hl _ (sp _ _ hs)
  case h_jpCond cc e =>
    intro h _; rw [exec_jpCond] at h; cases h; unfold jumpAbsIf; split
    · exact pc _ _ hs
    · exact hs
  case h_jp nn => rintro ⟨⟩ _; exact pc _ _ hs
  case h_callCond cc e =>
    intro h _; rw [exec_callCond] at h; cases h; unfold callIf; split
    · exact call _ _ hs
    · exact hs
  case h_pushStk p => intro h _; rw [exec_pushStk] at h; cases h; exact push _ _ hs
  case h_aluN op n => intro h _; rw [exec_aluN] at h; cases h; exact keeps_aluApply P cpu _ _ _ hs
  case h_rst v => intro h _; rw [exec_rst] at h; cases h; exact call _ _ hs
  case h_ret => rintro ⟨⟩ _; exact ret _ hs
  case h_call nn => rintro ⟨⟩ _; exact call _ _ hs
  case h_illegal op => intro _ system; exact system rfl
  case h_reti => intro _ system; exact system rfl
  case h_ldhIndNA n => rintro ⟨⟩ _; exact write _ _ _ hs
  case h_ldhIndCA => rintro ⟨⟩ _; exact write _ _ _ hs
  case h_addSPe e =>
    rintro ⟨⟩ _
    exact cpu s _ (fun _ => flagsByte_low _ _ _ _) (latchesKept_rfl _) hs
  case h_jpHL => rintro ⟨⟩ _; exact pc _ _ hs
  case h_ldIndNnA nn => rintro ⟨⟩ _; exact write _ _ _ hs
  case h_ldhAIndN n => rintro ⟨⟩ _; exact reg _ _ _ hs
  case h_ldhAIndC => rintro ⟨⟩ _; exact reg _ _ _ hs
  case h_di => intro _ system; exact system rfl
  case h_ldHLSPe e => rintro ⟨⟩ _; exact flags _ _ _ _ _ (pair _ _ _ hs)
  case h_ldSPHL => rintro ⟨⟩ _; exact sp _ _ hs
  case h_ldAIndNn nn => rintro ⟨⟩ _; exact reg _ _ _ hs
  case h_ei => intro _ system; exact system rfl
  case h_rotReg op r => intro h _; rw [exec_rotReg] at h; cases h; exact flags _ _ _ _ _ (reg _ _ _ hs)
  case h_rotInd op => intro h _; rw [exec_rotInd] at h; cases h; exact flags _ _ _ _ _ (write _ _ _ hs)
  case h_bitReg b r => intro h _; rw [exec_bitReg] at h; cases h; exact flags _ _ _ _ _ hs
  case h_bitInd b => intro h _; rw [exec_bitInd] at h; cases h; exact flags _ _ _ _ _ hs
  case h_resReg b r => intro h _; rw [exec_resReg] at h; cases h; exact reg _ _ _ hs
  case h_resInd b => intro h _; rw [exec_resInd] at h; cases h; exact write _ _ _ hs
  case h_setReg b r => intro h _; rw [exec_setReg] at h; cases h; exact reg _ _ _ hs
  case h_setInd b => intro h _; rw [exec_setInd] at h; cases h; exact write _ _ _ hs

end

/-- Every instruction keeps a property that CPU changes and bus writes keep. -/
theorem exec_keeps (P : State → Prop)
    (cpu : ∀ (s : State) (c : Cpu), (s.cpu.f.extractLsb' 0 4 = 0 → c.f.extractLsb' 0 4 = 0) → P s → P { s with cpu := c })
    (write : ∀ (s : State) (a : Word) (v : Byte), P s → P (memWrite a v s))
    (i : Instr) (s t : State) (hs : P s) (h : exec i s = .next t) : P t := by
  refine exec_cases P (fun s c hf _ => cpu s c hf) write i s t hs h fun hi => ?_
  rcases isSystem_cases i hi with rfl | ⟨p, rfl⟩ | rfl | rfl | rfl | ⟨b, rfl⟩ <;> cases h
  · unfold doHalt; split
    · exact cpu s _ id hs
    · exact cpu s _ id hs
  all_goals exact cpu s _ id hs

end Sys2Proof.Machine
end

