-- ==== Sys2Proof/Laws/Tick.lean ====
section
/-! SUPPORT. What the devices' ticks, a rendered line and the interrupt requests leave alone: everything but IF, the timer,
the DMA window, the PPU and the framebuffer. -/

namespace Sys2Proof.Machine

/-- The parts of the machine no device touches as cycles pass. -/
structure DeviceFrame (s t : State) : Prop where
  cpu : t.cpu = s.cpu
  cfg : t.cfg = s.cfg
  ie : t.irq.ie = s.irq.ie
  joypad : t.joypad = s.joypad
  dmaReg : t.dma.reg = s.dma.reg
  cgb : t.cgb = s.cgb
  mapper : t.mapper = s.mapper
  bootMapped : t.bootMapped = s.bootMapped
  freeCount : t.freeCount = s.freeCount
  mem : ∀ k, k ≠ .framebuffer → t.mem.get k = s.mem.get k

theorem DeviceFrame.refl (s : State) : DeviceFrame s s :=
  ⟨rfl, rfl, rfl, rfl, rfl, rfl, rfl, rfl, rfl, fun _ _ => rfl⟩

theorem DeviceFrame.trans {a b c : State} (h : DeviceFrame a b) (g : DeviceFrame b c) : DeviceFrame a c :=
  ⟨g.cpu.trans h.cpu, g.cfg.trans h.cfg, g.ie.trans h.ie, g.joypad.trans h.joypad, g.dmaReg.trans h.dmaReg,
    g.cgb.trans h.cgb, g.mapper.trans h.mapper, g.bootMapped.trans h.bootMapped, g.freeCount.trans h.freeCount,
    fun k hk => (g.mem k hk).trans (h.mem k hk)⟩

theorem deviceFrame_ppu (s : State) (p : Ppu) : DeviceFrame s { s with ppu := p } :=
  ⟨rfl, rfl, rfl, rfl, rfl, rfl, rfl, rfl, rfl, fun _ _ => rfl⟩

theorem deviceFrame_timer (s : State) (p : Timer) : DeviceFrame s { s with timer := p } :=
  ⟨rfl, rfl, rfl, rfl, rfl, rfl, rfl, rfl, rfl, fun _ _ => rfl⟩

theorem deviceFrame_requestInterrupt (i : Source) (s : State) : DeviceFrame s (requestInterrupt i s) :=
  ⟨rfl, rfl, rfl, rfl, rfl, rfl, rfl, rfl, rfl, fun _ _ => rfl⟩

theorem deviceFrame_requestIf (b : Bool) (i : Source) (s : State) : DeviceFrame s (requestIf b i s) := by
  unfold requestIf; split
  · exact deviceFrame_requestInterrupt _ _
  · exact .refl _

theorem deviceFrame_requestStat (k : Nat) (s : State) : DeviceFrame s (requestStat k s) := deviceFrame_requestIf _ _ _

theorem deviceFrame_lycCheck (s : State) : DeviceFrame s (lycCheck s) := deviceFrame_requestIf _ _ _

theorem deviceFrame_poke (s : State) (offset : Nat) (v : Byte) : DeviceFrame s (s.poke .framebuffer offset v) :=
  ⟨rfl, rfl, rfl, rfl, rfl, rfl, rfl, rfl, rfl, fun k hk => by cases k <;> first | rfl | exact absurd rfl hk⟩

theorem deviceFrame_putPixels (n : Nat) (l : List Rgb) (s : State) : DeviceFrame s (putPixels n l s) := by
  induction l generalizing n s with
  | nil => exact .refl _
  | cons c l ih =>
    exact (((deviceFrame_poke _ _ _).trans (deviceFrame_poke _ _ _)).trans (deviceFrame_poke _ _ _)).trans (ih _ _)

theorem deviceFrame_renderScanline (ly : Nat) (s : State) : DeviceFrame s (renderScanline ly s) :=
  (deviceFrame_putPixels _ _ _).trans (deviceFrame_ppu _ _)

theorem deviceFrame_timaSteps (n : Nat) (s : State) : DeviceFrame s (timaSteps n s) := by
  induction n generalizing s with
  | zero => exact .refl _
  | succ n ih =>
    refine DeviceFrame.trans ?_ (ih _)
    unfold timaStep; split
    · exact (deviceFrame_timer _ _).trans (deviceFrame_requestInterrupt _ _)
    · exact deviceFrame_timer _ _

theorem deviceFrame_timerTick (n : Nat) (s : State) : DeviceFrame s (timerTick n s) := by
  refine DeviceFrame.trans (b := divTick n s) (deviceFrame_timer s _) ?_
  show DeviceFrame _ (timaTick n (divTick n s))
  unfold timaTick; split
  · exact (deviceFrame_timaSteps _ _).trans (deviceFrame_timer _ _)
  · exact .refl _

theorem deviceFrame_enterHBlank (s : State) : DeviceFrame s (enterHBlank s) :=
  ((deviceFrame_renderScanline _ _).trans (deviceFrame_ppu _ _)).trans (deviceFrame_requestStat _ _)

theorem deviceFrame_endVisibleLine (s : State) : DeviceFrame s (endVisibleLine s) := by
  unfold endVisibleLine; dsimp only
  refine DeviceFrame.trans ?_ (deviceFrame_lycCheck _)
  split
  · refine DeviceFrame.trans ?_ (deviceFrame_requestStat _ _)
    exact ⟨rfl, rfl, rfl, rfl, rfl, rfl, rfl, rfl, rfl, fun _ _ => rfl⟩
  · exact DeviceFrame.trans (deviceFrame_ppu s _) (deviceFrame_requestStat _ _)

theorem deviceFrame_endVBlankLine (s : State) : DeviceFrame s (endVBlankLine s) := by
  unfold endVBlankLine; dsimp only
  refine DeviceFrame.trans ?_ (deviceFrame_lycCheck _)
  split
  · exact DeviceFrame.trans (deviceFrame_ppu s _) (deviceFrame_requestStat _ _)
  · exact deviceFrame_ppu s _

theorem deviceFrame_ppuAdvance (s t : State) (h : ppuAdvance s = some t) : DeviceFrame s t := by
  unfold ppuAdvance at h
  repeat' split at h
  all_goals cases h
  · exact deviceFrame_ppu _ _
  · exact deviceFrame_enterHBlank _
  · exact deviceFrame_endVisibleLine _
  · exact deviceFrame_endVBlankLine _

theorem deviceFrame_ppuLoop (fuel : Nat) (s : State) : DeviceFrame s (ppuLoop fuel s) := by
  induction fuel generalizing s with
  | zero => exact .refl _
  | succ n ih =>
    unfold ppuLoop
    split
    · rename_i h; exact (deviceFrame_ppuAdvance _ _ h).trans (ih _)
    · exact .refl _

theorem deviceFrame_ppuTick (n : Nat) (s : State) : DeviceFrame s (ppuTick n s) := by
  unfold ppuTick
  split
  · exact (deviceFrame_ppu _ _).trans (deviceFrame_ppuLoop _ _)
  · exact .refl _

theorem deviceFrame_dmaTick (n : Nat) (s : State) : DeviceFrame s (dmaTick n s) :=
  ⟨rfl, rfl, rfl, rfl, rfl, rfl, rfl, rfl, rfl, fun _ _ => rfl⟩

/-- The tick phase of a step (R400). -/
theorem deviceFrame_tick (n : Nat) (s : State) : DeviceFrame s (tick n s) := by
  unfold tick
  split
  · exact .refl _
  · exact ((deviceFrame_dmaTick _ _).trans (deviceFrame_timerTick _ _)).trans (deviceFrame_ppuTick _ _)

/-- The end of a step leaves the CPU alone. -/
@[simp] theorem endStep_cpu (n : Nat) (s : State) : (endStep n s).cpu = s.cpu := (deviceFrame_tick n s).cpu

/-- The end of a step leaves the parameters alone. -/
@[simp] theorem endStep_cfg (n : Nat) (s : State) : (endStep n s).cfg = s.cfg := (deviceFrame_tick n s).cfg

/-- The end of a step begins the next free moment. -/
@[simp] theorem endStep_freeCount (n : Nat) (s : State) : (endStep n s).freeCount = s.freeCount + 1 :=
  congrArg (· + 1) (deviceFrame_tick n s).freeCount

end Sys2Proof.Machine
end

