-- ==== Sys2Proof/Laws/Ppu.lean ====
section
/-! SUPPORT. What one pass of the PPU loop does to the position, the mode and IF, and that the loop's fuel is enough. -/

namespace Sys2Proof.Machine

/-- Where in a line the loop stands: the mode has begun, and the scan counter is past its first dot. -/
def Segment (p : Ppu) : Prop :=
  (p.ly.toNat ≤ 143 ∧ p.mode = .oamScan) ∨ (p.ly.toNat ≤ 143 ∧ p.mode = .transfer ∧ 80 ≤ p.scanCounter) ∨
  (p.ly.toNat ≤ 143 ∧ p.mode = .hblank ∧ 252 ≤ p.scanCounter) ∨
  (144 ≤ p.ly.toNat ∧ p.ly.toNat ≤ 153 ∧ p.mode = .vblank)

/-- How many passes are left at most. -/
def passesLeft (p : Ppu) : Nat :=
  3 * (p.scanCounter / 456) + match p.mode with | .oamScan => 2 | .transfer => 1 | .hblank => 0 | .vblank => 0

theorem putPixels_ppu (n : Nat) (l : List Rgb) (s : State) : (putPixels n l s).ppu = s.ppu := by
  induction l generalizing n s with
  | nil => rfl
  | cons c l ih => rw [putPixels, ih]; rfl

theorem putPixels_irq (n : Nat) (l : List Rgb) (s : State) : (putPixels n l s).irq = s.irq := by
  induction l generalizing n s with
  | nil => rfl
  | cons c l ih => rw [putPixels, ih]; rfl

theorem putPixels_timer (n : Nat) (l : List Rgb) (s : State) : (putPixels n l s).timer = s.timer := by
  induction l generalizing n s with
  | nil => rfl
  | cons c l ih => rw [putPixels, ih]; rfl

theorem putPixels_dma (n : Nat) (l : List Rgb) (s : State) : (putPixels n l s).dma = s.dma := by
  induction l generalizing n s with
  | nil => rfl
  | cons c l ih => rw [putPixels, ih]; rfl

theorem renderScanline_irq (ly : Nat) (s : State) : (renderScanline ly s).irq = s.irq := by
  unfold renderScanline
  simp only [putPixels_irq]

theorem renderScanline_ppu (ly : Nat) (s : State) : ∃ prio line, (renderScanline ly s).ppu =
    { s.ppu with bgPrio := prio, windowLine := line } := by
  refine ⟨(linePixels s ly).map (·.2), if windowDrawn s ly then s.ppu.windowLine + 1 else s.ppu.windowLine, ?_⟩
  unfold renderScanline
  simp only [putPixels_ppu]

@[simp] theorem requestStat_ppu (k : Nat) (s : State) : (requestStat k s).ppu = s.ppu := requestIf_ppu _ _ _
@[simp] theorem lycCheck_ppu (s : State) : (lycCheck s).ppu = s.ppu := requestIf_ppu _ _ _

/-- Mode 3 ends: only the mode and the renderer's own fields change in the PPU. -/
theorem enterHBlank_ppu (s : State) : ∃ prio line, (enterHBlank s).ppu =
    { s.ppu with bgPrio := prio, windowLine := line, mode := .hblank } := by
  obtain ⟨prio, line, h⟩ := renderScanline_ppu s.ppu.ly.toNat s
  refine ⟨prio, line, ?_⟩
  unfold enterHBlank
  dsimp only
  rw [requestStat_ppu, h]

/-- A visible line ends. -/
theorem endVisibleLine_ppu (s : State) : (endVisibleLine s).ppu =
    if s.ppu.ly + 1 = 144 then
      { s.ppu with scanCounter := s.ppu.scanCounter - 456, ly := s.ppu.ly + 1, mode := .vblank, frameReady := true }
    else { s.ppu with scanCounter := s.ppu.scanCounter - 456, ly := s.ppu.ly + 1, mode := .oamScan } := by
  unfold endVisibleLine
  dsimp only
  rw [lycCheck_ppu]
  split <;> rw [requestStat_ppu] <;> rfl

/-- A V-Blank line ends. -/
theorem endVBlankLine_ppu (s : State) : (endVBlankLine s).ppu =
    if s.ppu.ly = 153 then
      { s.ppu with scanCounter := s.ppu.scanCounter - 456, ly := 0, mode := .oamScan, windowLine := 0 }
    else { s.ppu with scanCounter := s.ppu.scanCounter - 456, ly := s.ppu.ly + 1 } := by
  unfold endVBlankLine
  dsimp only
  rw [lycCheck_ppu]
  split
  · rw [requestStat_ppu]
  · rfl

/-- A conditional request in one bit of IF. -/
theorem requestIf_bit (b : Bool) (i : Source) (s : State) (k : Nat) (hk : k < 5) :
    (requestIf b i s).irq.ifReg.getLsbD k = (s.irq.ifReg.getLsbD k || (b && decide (k = i.index))) := by
  have key : ∀ x : BitVec 5, ∀ k < 5, (x ||| i.bit).getLsbD k = (x.getLsbD k || decide (k = i.index)) := by
    cases i <;> decide
  unfold requestIf
  cases b
  · simp
  · simp [requestInterrupt, key _ k hk]

/-- Mode 3 ends: IF gains the STAT bit where STAT bit 3 is set. -/
theorem enterHBlank_bit (s : State) (k : Nat) (hk : k < 5) : (enterHBlank s).irq.ifReg.getLsbD k =
    (s.irq.ifReg.getLsbD k || (s.ppu.statEn.getLsbD 0 && decide (k = 1))) := by
  unfold enterHBlank requestStat
  dsimp only
  rw [requestIf_bit _ _ _ _ hk]
  obtain ⟨prio, line, e⟩ := renderScanline_ppu s.ppu.ly.toNat s
  simp only [renderScanline_irq, e]
  rfl

/-- A visible line ends: IF gains the V-Blank bit at line 144 and the STAT bit where the mode entered or the LYC match
asks for it. -/
theorem endVisibleLine_bit (s : State) (hl : s.ppu.ly.toNat ≤ 143) (k : Nat) (hk : k < 5) :
    (endVisibleLine s).irq.ifReg.getLsbD k =
      (s.irq.ifReg.getLsbD k ||
        (decide (s.ppu.ly.toNat = 143) && (decide (k = 0) || (s.ppu.statEn.getLsbD 1 && decide (k = 1)))) ||
        (!decide (s.ppu.ly.toNat = 143) && s.ppu.statEn.getLsbD 2 && decide (k = 1)) ||
        (decide (s.ppu.lyc.toNat = s.ppu.ly.toNat + 1) && s.ppu.statEn.getLsbD 3 && decide (k = 1))) := by
  have e1 : (s.ppu.ly + 1).toNat = s.ppu.ly.toNat + 1 := by simp [BitVec.toNat_add]; omega
  have e2 : s.ppu.ly + 1 = 144 ↔ s.ppu.ly.toNat = 143 :=
    ⟨fun h => by have := congrArg BitVec.toNat h; rw [e1] at this; simpa using this,
      fun h => BitVec.eq_of_toNat_eq (by rw [e1, h]; rfl)⟩
  have e3 : (s.ppu.ly + 1 == s.ppu.lyc) = decide (s.ppu.lyc.toNat = s.ppu.ly.toNat + 1) := by
    rw [Bool.eq_iff_iff, beq_iff_eq, decide_eq_true_eq, ← e1]
    exact ⟨fun h => by rw [h], fun h => (BitVec.eq_of_toNat_eq h).symm⟩
  unfold endVisibleLine lycCheck requestStat
  dsimp only
  rw [requestIf_bit _ _ _ _ hk]
  by_cases h4 : s.ppu.ly + 1 = 144
  · have h5 := e2.1 h4
    simp only [h4, if_true, requestIf_ppu] at e3 ⊢
    rw [requestIf_bit _ _ _ _ hk]
    have key : ∀ x : BitVec 5, ∀ k < 5, (x ||| Source.vblank.bit).getLsbD k = (x.getLsbD k || decide (k = 0)) := by decide
    simp only [requestInterrupt, key _ k hk, h5] at e3 ⊢
    rw [e3]
    generalize s.ppu.statEn.getLsbD 1 = b1
    generalize s.ppu.statEn.getLsbD 2 = b2
    generalize s.ppu.statEn.getLsbD 3 = b3
    generalize s.irq.ifReg.getLsbD k = b
    generalize decide (s.ppu.lyc.toNat = 143 + 1) = c
    rcases k with _ | _ | k <;> cases b <;> cases b1 <;> cases b2 <;> cases b3 <;> cases c <;> simp [Source.index]
  · have h5 : ¬ s.ppu.ly.toNat = 143 := fun h => h4 (e2.2 h)
    simp only [h4, if_false, requestIf_ppu]
    rw [requestIf_bit _ _ _ _ hk]
    simp only [h5, Source.index, e3, decide_false, Bool.not_false, Bool.false_and, Bool.true_and, Bool.or_false]
    rfl

/-- A V-Blank line ends: IF gains the STAT bit where mode 2 of line 0 or the LYC match asks for it. -/
theorem endVBlankLine_bit (s : State) (hl : s.ppu.ly.toNat ≤ 153) (k : Nat) (hk : k < 5) :
    (endVBlankLine s).irq.ifReg.getLsbD k =
      (s.irq.ifReg.getLsbD k || (decide (s.ppu.ly.toNat = 153) && s.ppu.statEn.getLsbD 2 && decide (k = 1)) ||
        (decide (s.ppu.lyc.toNat = if s.ppu.ly.toNat = 153 then 0 else s.ppu.ly.toNat + 1) &&
          s.ppu.statEn.getLsbD 3 && decide (k = 1))) := by
  have e1 : (s.ppu.ly + 1).toNat = s.ppu.ly.toNat + 1 := by simp [BitVec.toNat_add]; omega
  unfold endVBlankLine lycCheck requestStat
  dsimp only
  rw [requestIf_bit _ _ _ _ hk]
  by_cases h4 : s.ppu.ly = 153
  · have h5 : s.ppu.ly.toNat = 153 := by rw [h4]; rfl
    have e3 : ((0 : Byte) == s.ppu.lyc) = decide (s.ppu.lyc.toNat = 0) := by
      rw [Bool.eq_iff_iff, beq_iff_eq, decide_eq_true_eq]
      exact ⟨fun h => by rw [← h]; rfl, fun h => (BitVec.eq_of_toNat_eq h).symm⟩
    simp only [h4, if_true, requestIf_ppu]
    rw [requestIf_bit _ _ _ _ hk, e3]
    rfl
  · have h5 : s.ppu.ly.toNat ≠ 153 := fun h5 => h4 (BitVec.eq_of_toNat_eq (by rw [h5]; rfl))
    have e3 : (s.ppu.ly + 1 == s.ppu.lyc) = decide (s.ppu.lyc.toNat = s.ppu.ly.toNat + 1) := by
      rw [Bool.eq_iff_iff, beq_iff_eq, decide_eq_true_eq, ← e1]
      exact ⟨fun h => by rw [h], fun h => (BitVec.eq_of_toNat_eq h).symm⟩
    simp only [h4, if_false]
    rw [e3]
    simp only [Source.index, h5, decide_false, Bool.false_and, Bool.or_false, if_false]
    rfl

/-- The four things a pass can be. -/
theorem ppuAdvance_cases (s t : State) (h : ppuAdvance s = some t) :
    (s.ppu.ly.toNat ≤ 143 ∧ s.ppu.mode = .oamScan ∧ 80 ≤ s.ppu.scanCounter ∧ t = enterTransfer s) ∨
    (s.ppu.ly.toNat ≤ 143 ∧ s.ppu.mode = .transfer ∧ 252 ≤ s.ppu.scanCounter ∧ t = enterHBlank s) ∨
    (s.ppu.ly.toNat ≤ 143 ∧ s.ppu.mode = .hblank ∧ 456 ≤ s.ppu.scanCounter ∧ t = endVisibleLine s) ∨
    (144 ≤ s.ppu.ly.toNat ∧ 456 ≤ s.ppu.scanCounter ∧ t = endVBlankLine s) := by
  unfold ppuAdvance at h
  repeat' split at h
  all_goals cases h
  · rename_i h1 _ h2 h3; exact .inl ⟨h1, h2, h3, rfl⟩
  · rename_i h1 _ h2 h3; exact .inr (.inl ⟨h1, h2, h3, rfl⟩)
  · rename_i h1 _ h2 h3; exact .inr (.inr (.inl ⟨h1, h2, h3, rfl⟩))
  · rename_i h1 h2; exact .inr (.inr (.inr ⟨by omega, h2, rfl⟩))

/-- A pass keeps the segment, uses up one of the passes left, and moves the position by whole frames at most. -/
theorem ppuAdvance_segment (s t : State) (h : ppuAdvance s = some t) (hs : Segment s.ppu) :
    Segment t.ppu ∧ passesLeft t.ppu < passesLeft s.ppu ∧
    (s.ppu.ly.toNat * 456 + s.ppu.scanCounter = t.ppu.ly.toNat * 456 + t.ppu.scanCounter ∨
      (s.ppu.ly.toNat = 153 ∧ t.ppu.ly.toNat = 0 ∧
        s.ppu.ly.toNat * 456 + s.ppu.scanCounter = t.ppu.ly.toNat * 456 + t.ppu.scanCounter + 70224)) := by
  rcases ppuAdvance_cases s t h with ⟨h1, h2, h3, rfl⟩ | ⟨h1, h2, h3, rfl⟩ | ⟨h1, h2, h3, rfl⟩ | ⟨h1, h2, rfl⟩
  · refine ⟨.inr (.inl ⟨h1, rfl, h3⟩), ?_, .inl rfl⟩
    simp [passesLeft, enterTransfer, h2]
  · obtain ⟨prio, line, e⟩ := enterHBlank_ppu s
    rw [e]
    refine ⟨.inr (.inr (.inl ⟨h1, rfl, h3⟩)), ?_, .inl rfl⟩
    simp [passesLeft, h2]
  · have e1 : (s.ppu.ly + 1).toNat = s.ppu.ly.toNat + 1 := by simp [BitVec.toNat_add]; omega
    have e2 : (s.ppu.scanCounter - 456) / 456 + 1 = s.ppu.scanCounter / 456 := by omega
    rw [endVisibleLine_ppu]
    split
    · rename_i h4
      have : s.ppu.ly.toNat + 1 = 144 := by rw [← e1, h4]; rfl
      refine ⟨.inr (.inr (.inr ⟨by simp only [e1]; omega, by simp only [e1]; omega, rfl⟩)), ?_, .inl (by simp only [e1]; omega)⟩
      simp only [passesLeft, h2]; omega
    · rename_i h4
      have : s.ppu.ly.toNat + 1 ≠ 144 := fun h5 => h4 (BitVec.eq_of_toNat_eq (by rw [e1, h5]; rfl))
      refine ⟨.inl ⟨by simp only [e1]; omega, rfl⟩, ?_, .inl (by simp only [e1]; omega)⟩
      simp only [passesLeft, h2]; omega
  · have hv : s.ppu.ly.toNat ≤ 153 ∧ s.ppu.mode = .vblank := by
      rcases hs with h | h | h | h
      · omega
      · omega
      · omega
      · exact ⟨h.2.1, h.2.2⟩
    have e2 : (s.ppu.scanCounter - 456) / 456 + 1 = s.ppu.scanCounter / 456 := by omega
    rw [endVBlankLine_ppu]
    split
    · rename_i h4
      have h5 : s.ppu.ly.toNat = 153 := by rw [h4]; rfl
      refine ⟨.inl ⟨by simp, rfl⟩, ?_, .inr ⟨h5, rfl, by simp only [h5]; simp; omega⟩⟩
      simp only [passesLeft, hv.2]; omega
    · rename_i h4
      have h5 : s.ppu.ly.toNat ≠ 153 := fun h5 => h4 (BitVec.eq_of_toNat_eq (by rw [h5]; rfl))
      have e1 : (s.ppu.ly + 1).toNat = s.ppu.ly.toNat + 1 := by simp [BitVec.toNat_add]; omega
      refine ⟨.inr (.inr (.inr ⟨by simp only [e1]; omega, by simp only [e1]; omega, hv.2⟩)), ?_, .inl (by simp only [e1]; omega)⟩
      simp only [passesLeft, hv.2]; omega

/-- A property that every pass keeps holds where the loop ends, and with fuel enough the loop ends because no pass is left. -/
theorem ppuLoop_keeps (P : State → Prop) (pass : ∀ s t, ppuAdvance s = some t → Segment s.ppu → P s → P t) (fuel : Nat)
    (s : State) (hs : Segment s.ppu) (hf : passesLeft s.ppu < fuel) (h : P s) :
    P (ppuLoop fuel s) ∧ Segment (ppuLoop fuel s).ppu ∧ ppuAdvance (ppuLoop fuel s) = none := by
  induction fuel generalizing s with
  | zero => omega
  | succ n ih =>
    unfold ppuLoop
    split
    · rename_i t ht
      have hseg := ppuAdvance_segment s t ht hs
      exact ih t hseg.1 (by omega) (pass s t ht hs h)
    · rename_i hn
      exact ⟨h, hs, hn⟩

/-- Where no pass is left the scan counter is inside the line and the mode is the one of its dot. -/
theorem segment_done (s : State) (hs : Segment s.ppu) (h : ppuAdvance s = none) :
    s.ppu.scanCounter ≤ 455 ∧ s.ppu.ly.toNat ≤ 153 ∧ s.ppu.mode = modeAt s.ppu.ly s.ppu.scanCounter := by
  unfold ppuAdvance at h
  rcases hs with ⟨h1, h2⟩ | ⟨h1, h2, h3⟩ | ⟨h1, h2, h3⟩ | ⟨h1, h2, h3⟩
  · rw [if_pos h1, h2] at h
    have : ¬80 ≤ s.ppu.scanCounter := by intro h4; simp [h4] at h
    refine ⟨by omega, by omega, ?_⟩
    rw [h2, modeAt, if_neg (by omega), if_pos (by omega)]
  · rw [if_pos h1, h2] at h
    have : ¬252 ≤ s.ppu.scanCounter := by intro h4; simp [h4] at h
    refine ⟨by omega, by omega, ?_⟩
    rw [h2, modeAt, if_neg (by omega), if_neg (by omega), if_pos (by omega)]
  · rw [if_pos h1, h2] at h
    have : ¬456 ≤ s.ppu.scanCounter := by intro h4; simp [h4] at h
    refine ⟨by omega, by omega, ?_⟩
    rw [h2, modeAt, if_neg (by omega), if_neg (by omega), if_neg (by omega)]
  · rw [if_neg (by omega)] at h
    have : ¬456 ≤ s.ppu.scanCounter := by intro h4; simp [h4] at h
    refine ⟨by omega, by omega, ?_⟩
    rw [h3, modeAt, if_pos (by omega)]

/-- A consistent position is in the segment of its mode, and stays there however many cycles are added. -/
theorem segment_of_mode (p : Ppu) (n : Nat) (hm : p.mode = modeAt p.ly p.scanCounter) (hl : p.ly.toNat ≤ 153) :
    Segment { p with scanCounter := p.scanCounter + n } := by
  unfold modeAt at hm
  unfold Segment
  dsimp only
  split at hm
  · exact .inr (.inr (.inr ⟨by omega, hl, hm⟩))
  · split at hm
    · exact .inl ⟨by omega, hm⟩
    · split at hm
      · exact .inr (.inl ⟨by omega, hm, by omega⟩)
      · exact .inr (.inr (.inl ⟨by omega, hm, by omega⟩))

theorem passesLeft_lt_fuel (p : Ppu) : passesLeft p < ppuFuel p.scanCounter := by
  unfold passesLeft ppuFuel
  cases p.mode <;> simp only <;> omega

end Sys2Proof.Machine
end

