-- ==== Sys2Proof/Laws/Render.lean ====
section
/-! SUPPORT. The renderer's bytes and colours on numbers: the place of a VRAM byte, of a tile, of a palette colour. -/

namespace Sys2Proof.Machine

/-- A VRAM byte by its offset in the store. -/
theorem vramByte_eq (s : State) (bank a k i : Nat) (ha : a = 0x8000 + k) (hi : bank * 0x2000 + k = i) :
    vramByte s bank a = s.peek .vram i := by
  subst ha hi
  unfold vramByte
  rw [Nat.add_sub_cancel_left]

/-- The two bits of a colour index. -/
theorem colourIndex_toNat (lo hi : Byte) (c : Nat) :
    (colourIndex lo hi c).toNat = 2 * (hi.getLsbD (7 - c)).toNat + (lo.getLsbD (7 - c)).toNat := by
  unfold colourIndex
  cases hi.getLsbD (7 - c) <;> cases lo.getLsbD (7 - c) <;> rfl

/-- The tile data of a background or window tile, unsigned or signed. -/
theorem tileAddr_eq (s : State) (t : Byte) : tileAddr s t =
    0x8000 + (if s.ppu.lcdc.getLsbD 4 then 16 * t.toNat else (0x1000 + 16 * t.toInt).toNat) := by
  have := t.isLt
  unfold tileAddr
  rw [BitVec.toInt_eq_toNat_cond]
  split
  · rfl
  · split <;> split <;> omega

/-- A DMG palette's shade on numbers. -/
theorem paletteShade_toNat (palette : Byte) (cid : BitVec 2) :
    (paletteShade palette cid).toNat = palette.toNat / 4 ^ cid.toNat % 4 := by
  unfold paletteShade
  rw [BitVec.extractLsb'_toNat, Nat.shiftRight_eq_div_pow, Nat.pow_mul]

/-- A CGB palette's colour is the word of its two bytes, low byte first. -/
theorem paletteColour_eq (s : State) (k : Store) (palette : BitVec 3) (cid : BitVec 2) :
    ∃ w : Word, paletteColour s k palette cid = rgb15 w ∧
      w.toNat = (s.peek k (8 * palette.toNat + 2 * cid.toNat)).toNat +
        256 * (s.peek k (8 * palette.toNat + 2 * cid.toNat + 1)).toNat := by
  refine ⟨_, rfl, ?_⟩
  unfold wordOf
  rw [BitVec.toNat_append, ← Nat.shiftLeft_add_eq_or_of_lt (BitVec.isLt _), Nat.shiftLeft_eq]
  omega

end Sys2Proof.Machine
end

