-- ==== Sys2Proof/Laws/Step.lean ====
section
/-! SUPPORT. What a step can do, once: CPU changes that keep F's low nibble clear, bus writes, interrupt bits, the devices' tick
and the model's count of free moments. A property that each of them keeps, every step keeps. -/

namespace Sys2Proof.Machine

/-- An instruction at PC always answers a next state. -/
theorem runInstr_next (s : State) : ∃ v, runInstr s = .next v := by
  obtain ⟨t, ht⟩ := exec_next (fetchedInstr s) (afterFetch s)
  exact ⟨_, by rw [runInstr, ht]⟩

/-- Every step answers a next state (R77, R383). -/
theorem coreStep_next (s : State) : ∃ t n, coreStep s = .next (t, n) := by
  unfold coreStep
  split
  · exact ⟨_, _, rfl⟩
  · split
    · exact ⟨_, _, rfl⟩
    · dsimp only
      split
      · exact ⟨_, _, rfl⟩
      · obtain ⟨v, hv⟩ := runInstr_next (serviceInterrupts s).1
        rw [hv]
        exact ⟨_, _, rfl⟩

section
variable (P : State → Prop)
  (cpu : ∀ (s : State) (c : Cpu), (s.cpu.f.extractLsb' 0 4 = 0 → c.f.extractLsb' 0 4 = 0) → P s → P { s with cpu := c })
  (write : ∀ (s : State) (a : Word) (v : Byte), P s → P (memWrite a v s))
  (irq : ∀ (s : State) (x : BitVec 5), P s → P { s with irq := { s.irq with ifReg := x } })
  (free : ∀ (s : State) (n : Nat), P s → P { s with freeCount := n })
  (ticks : ∀ (n : Nat) (s : State), P s → P (tick n s))

include cpu write irq free in
theorem keeps_dispatch (i : Source) (s : State) (h : P s) : P (dispatch i s) := by
  rw [dispatch_eq]
  have h2 := write _ (s.cpu.sp - 2) (loByte s.cpu.pc) (write _ (s.cpu.sp - 1) (hiByte s.cpu.pc) (irq s (s.irq.ifReg &&& ~~~i.bit) h))
  refine free _ _ (cpu _ { s.cpu with ime := false, eiPending := false, halted := false, haltBug := false
                                      sp := s.cpu.sp - 2, pc := i.vector } ?_ h2)
  simp

include cpu write irq free in
theorem keeps_serviceInterrupts (s : State) (h : P s) : P (serviceInterrupts s).1 := by
  have hw : P (wakeHalt s) := by
    unfold wakeHalt; split
    · exact cpu _ _ id h
    · exact h
  unfold serviceInterrupts
  dsimp only
  split
  · split
    · exact keeps_dispatch P cpu write irq free _ _ hw
    · exact hw
  · exact hw

include cpu write in
theorem keeps_runInstr (s t : State) (h : P s) (hr : runInstr s = .next t) : P t := by
  unfold runInstr at hr
  split at hr
  · rename_i u he
    cases hr
    have hu := exec_keeps P cpu write _ _ _ (cpu s _ id h : P (afterFetch s)) he
    unfold consumeEi; split
    · exact cpu u _ id hu
    · exact hu
  · cases hr
  · cases hr

include free ticks in
theorem keeps_endStep (n : Nat) (s : State) (h : P s) : P (endStep n s) := free _ _ (ticks n s h)

include cpu write irq free ticks in
/-- Every step keeps what each of its parts keeps. -/
theorem step_keeps (s t : State) (h : P s) (hs : step s = .next t) : P t := by
  have hi := keeps_serviceInterrupts P cpu write irq free s h
  unfold step coreStep at hs
  split at hs
  · rename_i r hr
    cases hs
    split at hr
    · cases hr; exact h
    · split at hr
      · cases hr; exact keeps_endStep P free ticks _ _ h
      · dsimp only at hr
        split at hr
        · cases hr; exact keeps_endStep P free ticks _ _ hi
        · split at hr
          · rename_i u hu
            cases hr
            exact keeps_endStep P free ticks _ _ (keeps_runInstr P cpu write _ _ hi hu)
          · cases hr
          · cases hr
  · cases hs
  · cases hs

end

end Sys2Proof.Machine
end

