-- ==== Sys2Proof/Tests/Slice0.lean ====
section
/-! SUPPORT. The model's own tests, in four parts: the well-formedness smoke test; every byte of the opcode map, written out
from the grid of 30_encoding.md R155 and from R154; single steps and device accesses whose expected results are the vectors of
95_test_vectors.md (the V, I, T, K, G, M, J and H numbers in the names); and a witness for the hypotheses of each obligation. -/

open Sys2Proof Sys2Proof.Machine

namespace Sys2Proof.Tests

/-! ### Well-formedness -/

theorem test_wellFormed_refuses_other_bytes :
    [0x00#8, 0x40, 0x76, 0xCB, 0xD2, 0xD4, 0xDC, 0xDE, 0xFB, 0xFE, 0xFF].map (fun b => (Instr.illegal b).wellFormed) =
      List.replicate 11 false := by decide
theorem test_wellFormed_accepts_eleven :
    illegalBytes.map (fun b => (Instr.illegal b).wellFormed) = List.replicate 11 true := by decide
theorem test_wellFormed_accepts_operands :
    [Instr.ldAn 0xFF, .jp 0xFFFF, .jr 0x80, .stop 0xFF, .set7A].map Instr.wellFormed = List.replicate 5 true := by decide

/-! ### Decoding -/

/-- The instruction a byte list begins with, and how many bytes are left. -/
def reads (bytes : List Byte) : Option (Instr × Nat) :=
  match decode bytes with
  | .ok (i, rest) => some (i, rest.length)
  | .error _ => none

theorem test_decode_row_0 :
    [0x00, 0x01, 0x02, 0x03, 0x04, 0x05, 0x06, 0x07, 0x08, 0x09, 0x0A, 0x0B, 0x0C, 0x0D, 0x0E, 0x0F].map (fun op => reads [op, 0x34, 0x12]) = [
    some (.nop, 2), some (.ldBCnn 0x1234, 0), some (.ldIndBCA, 2), some (.incBC, 2), some (.incB, 2), some (.decB, 2),
    some (.ldBn 0x34, 1), some (.rlca, 2), some (.ldIndNnSP 0x1234, 0), some (.addHLBC, 2), some (.ldAIndBC, 2),
    some (.decBC, 2), some (.incC, 2), some (.decC, 2), some (.ldCn 0x34, 1), some (.rrca, 2)] := rfl

theorem test_decode_row_1 :
    [0x10, 0x11, 0x12, 0x13, 0x14, 0x15, 0x16, 0x17, 0x18, 0x19, 0x1A, 0x1B, 0x1C, 0x1D, 0x1E, 0x1F].map (fun op => reads [op, 0x34, 0x12]) = [
    some (.stop 0x34, 1), some (.ldDEnn 0x1234, 0), some (.ldIndDEA, 2), some (.incDE, 2), some (.incD, 2), some (.decD, 2),
    some (.ldDn 0x34, 1), some (.rla, 2), some (.jr 0x34, 1), some (.addHLDE, 2), some (.ldAIndDE, 2), some (.decDE, 2),
    some (.incE, 2), some (.decE, 2), some (.ldEn 0x34, 1), some (.rra, 2)] := rfl

theorem test_decode_row_2 :
    [0x20, 0x21, 0x22, 0x23, 0x24, 0x25, 0x26, 0x27, 0x28, 0x29, 0x2A, 0x2B, 0x2C, 0x2D, 0x2E, 0x2F].map (fun op => reads [op, 0x34, 0x12]) = [
    some (.jrNZ 0x34, 1), some (.ldHLnn 0x1234, 0), some (.ldIndHLIncA, 2), some (.incHL, 2), some (.incH, 2),
    some (.decH, 2), some (.ldHn 0x34, 1), some (.daa, 2), some (.jrZ 0x34, 1), some (.addHLHL, 2), some (.ldAIndHLInc, 2),
    some (.decHL, 2), some (.incL, 2), some (.decL, 2), some (.ldLn 0x34, 1), some (.cpl, 2)] := rfl

theorem test_decode_row_3 :
    [0x30, 0x31, 0x32, 0x33, 0x34, 0x35, 0x36, 0x37, 0x38, 0x39, 0x3A, 0x3B, 0x3C, 0x3D, 0x3E, 0x3F].map (fun op => reads [op, 0x34, 0x12]) = [
    some (.jrNC 0x34, 1), some (.ldSPnn 0x1234, 0), some (.ldIndHLDecA, 2), some (.incSP, 2), some (.incIndHL, 2),
    some (.decIndHL, 2), some (.ldIndHLn 0x34, 1), some (.scf, 2), some (.jrC 0x34, 1), some (.addHLSP, 2),
    some (.ldAIndHLDec, 2), some (.decSP, 2), some (.incA, 2), some (.decA, 2), some (.ldAn 0x34, 1), some (.ccf, 2)] := rfl

theorem test_decode_row_4 :
    [0x40, 0x41, 0x42, 0x43, 0x44, 0x45, 0x46, 0x47, 0x48, 0x49, 0x4A, 0x4B, 0x4C, 0x4D, 0x4E, 0x4F].map (fun op => reads [op, 0x34, 0x12]) = [
    some (.ldBB, 2), some (.ldBC, 2), some (.ldBD, 2), some (.ldBE, 2), some (.ldBH, 2), some (.ldBL, 2),
    some (.ldBIndHL, 2), some (.ldBA, 2), some (.ldCB, 2), some (.ldCC, 2), some (.ldCD, 2), some (.ldCE, 2),
    some (.ldCH, 2), some (.ldCL, 2), some (.ldCIndHL, 2), some (.ldCA, 2)] := rfl

theorem test_decode_row_5 :
    [0x50, 0x51, 0x52, 0x53, 0x54, 0x55, 0x56, 0x57, 0x58, 0x59, 0x5A, 0x5B, 0x5C, 0x5D, 0x5E, 0x5F].map (fun op => reads [op, 0x34, 0x12]) = [
    some (.ldDB, 2), some (.ldDC, 2), some (.ldDD, 2), some (.ldDE, 2), some (.ldDH, 2), some (.ldDL, 2),
    some (.ldDIndHL, 2), some (.ldDA, 2), some (.ldEB, 2), some (.ldEC, 2), some (.ldED, 2), some (.ldEE, 2),
    some (.ldEH, 2), some (.ldEL, 2), some (.ldEIndHL, 2), some (.ldEA, 2)] := rfl

theorem test_decode_row_6 :
    [0x60, 0x61, 0x62, 0x63, 0x64, 0x65, 0x66, 0x67, 0x68, 0x69, 0x6A, 0x6B, 0x6C, 0x6D, 0x6E, 0x6F].map (fun op => reads [op, 0x34, 0x12]) = [
    some (.ldHB, 2), some (.ldHC, 2), some (.ldHD, 2), some (.ldHE, 2), some (.ldHH, 2), some (.ldHL, 2),
    some (.ldHIndHL, 2), some (.ldHA, 2), some (.ldLB, 2), some (.ldLC, 2), some (.ldLD, 2), some (.ldLE, 2),
    some (.ldLH, 2), some (.ldLL, 2), some (.ldLIndHL, 2), some (.ldLA, 2)] := rfl

theorem test_decode_row_7 :
    [0x70, 0x71, 0x72, 0x73, 0x74, 0x75, 0x76, 0x77, 0x78, 0x79, 0x7A, 0x7B, 0x7C, 0x7D, 0x7E, 0x7F].map (fun op => reads [op, 0x34, 0x12]) = [
    some (.ldIndHLB, 2), some (.ldIndHLC, 2), some (.ldIndHLD, 2), some (.ldIndHLE, 2), some (.ldIndHLH, 2),
    some (.ldIndHLL, 2), some (.halt, 2), some (.ldIndHLA, 2), some (.ldAB, 2), some (.ldAC, 2), some (.ldAD, 2),
    some (.ldAE, 2), some (.ldAH, 2), some (.ldAL, 2), some (.ldAIndHL, 2), some (.ldAA, 2)] := rfl

theorem test_decode_row_8 :
    [0x80, 0x81, 0x82, 0x83, 0x84, 0x85, 0x86, 0x87, 0x88, 0x89, 0x8A, 0x8B, 0x8C, 0x8D, 0x8E, 0x8F].map (fun op => reads [op, 0x34, 0x12]) = [
    some (.addAB, 2), some (.addAC, 2), some (.addAD, 2), some (.addAE, 2), some (.addAH, 2), some (.addAL, 2),
    some (.addAIndHL, 2), some (.addAA, 2), some (.adcAB, 2), some (.adcAC, 2), some (.adcAD, 2), some (.adcAE, 2),
    some (.adcAH, 2), some (.adcAL, 2), some (.adcAIndHL, 2), some (.adcAA, 2)] := rfl

theorem test_decode_row_9 :
    [0x90, 0x91, 0x92, 0x93, 0x94, 0x95, 0x96, 0x97, 0x98, 0x99, 0x9A, 0x9B, 0x9C, 0x9D, 0x9E, 0x9F].map (fun op => reads [op, 0x34, 0x12]) = [
    some (.subB, 2), some (.subC, 2), some (.subD, 2), some (.subE, 2), some (.subH, 2), some (.subL, 2),
    some (.subIndHL, 2), some (.subA, 2), some (.sbcAB, 2), some (.sbcAC, 2), some (.sbcAD, 2), some (.sbcAE, 2),
    some (.sbcAH, 2), some (.sbcAL, 2), some (.sbcAIndHL, 2), some (.sbcAA, 2)] := rfl

theorem test_decode_row_A :
    [0xA0, 0xA1, 0xA2, 0xA3, 0xA4, 0xA5, 0xA6, 0xA7, 0xA8, 0xA9, 0xAA, 0xAB, 0xAC, 0xAD, 0xAE, 0xAF].map (fun op => reads [op, 0x34, 0x12]) = [
    some (.andB, 2), some (.andC, 2), some (.andD, 2), some (.andE, 2), some (.andH, 2), some (.andL, 2),
    some (.andIndHL, 2), some (.andA, 2), some (.xorB, 2), some (.xorC, 2), some (.xorD, 2), some (.xorE, 2),
    some (.xorH, 2), some (.xorL, 2), some (.xorIndHL, 2), some (.xorA, 2)] := rfl

theorem test_decode_row_B :
    [0xB0, 0xB1, 0xB2, 0xB3, 0xB4, 0xB5, 0xB6, 0xB7, 0xB8, 0xB9, 0xBA, 0xBB, 0xBC, 0xBD, 0xBE, 0xBF].map (fun op => reads [op, 0x34, 0x12]) = [
    some (.orB, 2), some (.orC, 2), some (.orD, 2), some (.orE, 2), some (.orH, 2), some (.orL, 2), some (.orIndHL, 2),
    some (.orA, 2), some (.cpB, 2), some (.cpC, 2), some (.cpD, 2), some (.cpE, 2), some (.cpH, 2), some (.cpL, 2),
    some (.cpIndHL, 2), some (.cpA, 2)] := rfl

theorem test_decode_row_C :
    [0xC0, 0xC1, 0xC2, 0xC3, 0xC4, 0xC5, 0xC6, 0xC7, 0xC8, 0xC9, 0xCA, 0xCC, 0xCD, 0xCE, 0xCF].map (fun op => reads [op, 0x34, 0x12]) = [
    some (.retNZ, 2), some (.popBC, 2), some (.jpNZ 0x1234, 0), some (.jp 0x1234, 0), some (.callNZ 0x1234, 0),
    some (.pushBC, 2), some (.addAn 0x34, 1), some (.rst00, 2), some (.retZ, 2), some (.ret, 2), some (.jpZ 0x1234, 0),
    some (.callZ 0x1234, 0), some (.call 0x1234, 0), some (.adcAn 0x34, 1), some (.rst08, 2)] := rfl

theorem test_decode_row_D :
    [0xD0, 0xD1, 0xD2, 0xD3, 0xD4, 0xD5, 0xD6, 0xD7, 0xD8, 0xD9, 0xDA, 0xDB, 0xDC, 0xDD, 0xDE, 0xDF].map (fun op => reads [op, 0x34, 0x12]) = [
    some (.retNC, 2), some (.popDE, 2), some (.jpNC 0x1234, 0), some (.illegal 0xD3, 2), some (.callNC 0x1234, 0),
    some (.pushDE, 2), some (.subn 0x34, 1), some (.rst10, 2), some (.retC, 2), some (.reti, 2), some (.jpC 0x1234, 0),
    some (.illegal 0xDB, 2), some (.callC 0x1234, 0), some (.illegal 0xDD, 2), some (.sbcAn 0x34, 1), some (.rst18, 2)] := rfl

theorem test_decode_row_E :
    [0xE0, 0xE1, 0xE2, 0xE3, 0xE4, 0xE5, 0xE6, 0xE7, 0xE8, 0xE9, 0xEA, 0xEB, 0xEC, 0xED, 0xEE, 0xEF].map (fun op => reads [op, 0x34, 0x12]) = [
    some (.ldhIndNA 0x34, 1), some (.popHL, 2), some (.ldhIndCA, 2), some (.illegal 0xE3, 2), some (.illegal 0xE4, 2),
    some (.pushHL, 2), some (.andn 0x34, 1), some (.rst20, 2), some (.addSPe 0x34, 1), some (.jpHL, 2),
    some (.ldIndNnA 0x1234, 0), some (.illegal 0xEB, 2), some (.illegal 0xEC, 2), some (.illegal 0xED, 2),
    some (.xorn 0x34, 1), some (.rst28, 2)] := rfl

theorem test_decode_row_F :
    [0xF0, 0xF1, 0xF2, 0xF3, 0xF4, 0xF5, 0xF6, 0xF7, 0xF8, 0xF9, 0xFA, 0xFB, 0xFC, 0xFD, 0xFE, 0xFF].map (fun op => reads [op, 0x34, 0x12]) = [
    some (.ldhAIndN 0x34, 1), some (.popAF, 2), some (.ldhAIndC, 2), some (.di, 2), some (.illegal 0xF4, 2),
    some (.pushAF, 2), some (.orn 0x34, 1), some (.rst30, 2), some (.ldHLSPe 0x34, 1), some (.ldSPHL, 2),
    some (.ldAIndNn 0x1234, 0), some (.ei, 2), some (.illegal 0xFC, 2), some (.illegal 0xFD, 2), some (.cpn 0x34, 1),
    some (.rst38, 2)] := rfl

theorem test_decode_cb_row_0 :
    [0x00, 0x01, 0x02, 0x03, 0x04, 0x05, 0x06, 0x07, 0x08, 0x09, 0x0A, 0x0B, 0x0C, 0x0D, 0x0E, 0x0F].map (fun op => reads [0xCB, op, 0x12]) = [
    some (.rlcB, 1), some (.rlcC, 1), some (.rlcD, 1), some (.rlcE, 1), some (.rlcH, 1), some (.rlcL, 1),
    some (.rlcIndHL, 1), some (.rlcA, 1), some (.rrcB, 1), some (.rrcC, 1), some (.rrcD, 1), some (.rrcE, 1),
    some (.rrcH, 1), some (.rrcL, 1), some (.rrcIndHL, 1), some (.rrcA, 1)] := rfl

theorem test_decode_cb_row_1 :
    [0x10, 0x11, 0x12, 0x13, 0x14, 0x15, 0x16, 0x17, 0x18, 0x19, 0x1A, 0x1B, 0x1C, 0x1D, 0x1E, 0x1F].map (fun op => reads [0xCB, op, 0x12]) = [
    some (.rlB, 1), some (.rlC, 1), some (.rlD, 1), some (.rlE, 1), some (.rlH, 1), some (.rlL, 1), some (.rlIndHL, 1),
    some (.rlA, 1), some (.rrB, 1), some (.rrC, 1), some (.rrD, 1), some (.rrE, 1), some (.rrH, 1), some (.rrL, 1),
    some (.rrIndHL, 1), some (.rrA, 1)] := rfl

theorem test_decode_cb_row_2 :
    [0x20, 0x21, 0x22, 0x23, 0x24, 0x25, 0x26, 0x27, 0x28, 0x29, 0x2A, 0x2B, 0x2C, 0x2D, 0x2E, 0x2F].map (fun op => reads [0xCB, op, 0x12]) = [
    some (.slaB, 1), some (.slaC, 1), some (.slaD, 1), some (.slaE, 1), some (.slaH, 1), some (.slaL, 1),
    some (.slaIndHL, 1), some (.slaA, 1), some (.sraB, 1), some (.sraC, 1), some (.sraD, 1), some (.sraE, 1),
    some (.sraH, 1), some (.sraL, 1), some (.sraIndHL, 1), some (.sraA, 1)] := rfl

theorem test_decode_cb_row_3 :
    [0x30, 0x31, 0x32, 0x33, 0x34, 0x35, 0x36, 0x37, 0x38, 0x39, 0x3A, 0x3B, 0x3C, 0x3D, 0x3E, 0x3F].map (fun op => reads [0xCB, op, 0x12]) = [
    some (.swapB, 1), some (.swapC, 1), some (.swapD, 1), some (.swapE, 1), some (.swapH, 1), some (.swapL, 1),
    some (.swapIndHL, 1), some (.swapA, 1), some (.srlB, 1), some (.srlC, 1), some (.srlD, 1), some (.srlE, 1),
    some (.srlH, 1), some (.srlL, 1), some (.srlIndHL, 1), some (.srlA, 1)] := rfl

theorem test_decode_cb_row_4 :
    [0x40, 0x41, 0x42, 0x43, 0x44, 0x45, 0x46, 0x47, 0x48, 0x49, 0x4A, 0x4B, 0x4C, 0x4D, 0x4E, 0x4F].map (fun op => reads [0xCB, op, 0x12]) = [
    some (.bit0B, 1), some (.bit0C, 1), some (.bit0D, 1), some (.bit0E, 1), some (.bit0H, 1), some (.bit0L, 1),
    some (.bit0IndHL, 1), some (.bit0A, 1), some (.bit1B, 1), some (.bit1C, 1), some (.bit1D, 1), some (.bit1E, 1),
    some (.bit1H, 1), some (.bit1L, 1), some (.bit1IndHL, 1), some (.bit1A, 1)] := rfl

theorem test_decode_cb_row_5 :
    [0x50, 0x51, 0x52, 0x53, 0x54, 0x55, 0x56, 0x57, 0x58, 0x59, 0x5A, 0x5B, 0x5C, 0x5D, 0x5E, 0x5F].map (fun op => reads [0xCB, op, 0x12]) = [
    some (.bit2B, 1), some (.bit2C, 1), some (.bit2D, 1), some (.bit2E, 1), some (.bit2H, 1), some (.bit2L, 1),
    some (.bit2IndHL, 1), some (.bit2A, 1), some (.bit3B, 1), some (.bit3C, 1), some (.bit3D, 1), some (.bit3E, 1),
    some (.bit3H, 1), some (.bit3L, 1), some (.bit3IndHL, 1), some (.bit3A, 1)] := rfl

theorem test_decode_cb_row_6 :
    [0x60, 0x61, 0x62, 0x63, 0x64, 0x65, 0x66, 0x67, 0x68, 0x69, 0x6A, 0x6B, 0x6C, 0x6D, 0x6E, 0x6F].map (fun op => reads [0xCB, op, 0x12]) = [
    some (.bit4B, 1), some (.bit4C, 1), some (.bit4D, 1), some (.bit4E, 1), some (.bit4H, 1), some (.bit4L, 1),
    some (.bit4IndHL, 1), some (.bit4A, 1), some (.bit5B, 1), some (.bit5C, 1), some (.bit5D, 1), some (.bit5E, 1),
    some (.bit5H, 1), some (.bit5L, 1), some (.bit5IndHL, 1), some (.bit5A, 1)] := rfl

theorem test_decode_cb_row_7 :
    [0x70, 0x71, 0x72, 0x73, 0x74, 0x75, 0x76, 0x77, 0x78, 0x79, 0x7A, 0x7B, 0x7C, 0x7D, 0x7E, 0x7F].map (fun op => reads [0xCB, op, 0x12]) = [
    some (.bit6B, 1), some (.bit6C, 1), some (.bit6D, 1), some (.bit6E, 1), some (.bit6H, 1), some (.bit6L, 1),
    some (.bit6IndHL, 1), some (.bit6A, 1), some (.bit7B, 1), some (.bit7C, 1), some (.bit7D, 1), some (.bit7E, 1),
    some (.bit7H, 1), some (.bit7L, 1), some (.bit7IndHL, 1), some (.bit7A, 1)] := rfl

theorem test_decode_cb_row_8 :
    [0x80, 0x81, 0x82, 0x83, 0x84, 0x85, 0x86, 0x87, 0x88, 0x89, 0x8A, 0x8B, 0x8C, 0x8D, 0x8E, 0x8F].map (fun op => reads [0xCB, op, 0x12]) = [
    some (.res0B, 1), some (.res0C, 1), some (.res0D, 1), some (.res0E, 1), some (.res0H, 1), some (.res0L, 1),
    some (.res0IndHL, 1), some (.res0A, 1), some (.res1B, 1), some (.res1C, 1), some (.res1D, 1), some (.res1E, 1),
    some (.res1H, 1), some (.res1L, 1), some (.res1IndHL, 1), some (.res1A, 1)] := rfl

theorem test_decode_cb_row_9 :
    [0x90, 0x91, 0x92, 0x93, 0x94, 0x95, 0x96, 0x97, 0x98, 0x99, 0x9A, 0x9B, 0x9C, 0x9D, 0x9E, 0x9F].map (fun op => reads [0xCB, op, 0x12]) = [
    some (.res2B, 1), some (.res2C, 1), some (.res2D, 1), some (.res2E, 1), some (.res2H, 1), some (.res2L, 1),
    some (.res2IndHL, 1), some (.res2A, 1), some (.res3B, 1), some (.res3C, 1), some (.res3D, 1), some (.res3E, 1),
    some (.res3H, 1), some (.res3L, 1), some (.res3IndHL, 1), some (.res3A, 1)] := rfl

theorem test_decode_cb_row_A :
    [0xA0, 0xA1, 0xA2, 0xA3, 0xA4, 0xA5, 0xA6, 0xA7, 0xA8, 0xA9, 0xAA, 0xAB, 0xAC, 0xAD, 0xAE, 0xAF].map (fun op => reads [0xCB, op, 0x12]) = [
    some (.res4B, 1), some (.res4C, 1), some (.res4D, 1), some (.res4E, 1), some (.res4H, 1), some (.res4L, 1),
    some (.res4IndHL, 1), some (.res4A, 1), some (.res5B, 1), some (.res5C, 1), some (.res5D, 1), some (.res5E, 1),
    some (.res5H, 1), some (.res5L, 1), some (.res5IndHL, 1), some (.res5A, 1)] := rfl

theorem test_decode_cb_row_B :
    [0xB0, 0xB1, 0xB2, 0xB3, 0xB4, 0xB5, 0xB6, 0xB7, 0xB8, 0xB9, 0xBA, 0xBB, 0xBC, 0xBD, 0xBE, 0xBF].map (fun op => reads [0xCB, op, 0x12]) = [
    some (.res6B, 1), some (.res6C, 1), some (.res6D, 1), some (.res6E, 1), some (.res6H, 1), some (.res6L, 1),
    some (.res6IndHL, 1), some (.res6A, 1), some (.res7B, 1), some (.res7C, 1), some (.res7D, 1), some (.res7E, 1),
    some (.res7H, 1), some (.res7L, 1), some (.res7IndHL, 1), some (.res7A, 1)] := rfl

theorem test_decode_cb_row_C :
    [0xC0, 0xC1, 0xC2, 0xC3, 0xC4, 0xC5, 0xC6, 0xC7, 0xC8, 0xC9, 0xCA, 0xCB, 0xCC, 0xCD, 0xCE, 0xCF].map (fun op => reads [0xCB, op, 0x12]) = [
    some (.set0B, 1), some (.set0C, 1), some (.set0D, 1), some (.set0E, 1), some (.set0H, 1), some (.set0L, 1),
    some (.set0IndHL, 1), some (.set0A, 1), some (.set1B, 1), some (.set1C, 1), some (.set1D, 1), some (.set1E, 1),
    some (.set1H, 1), some (.set1L, 1), some (.set1IndHL, 1), some (.set1A, 1)] := rfl

theorem test_decode_cb_row_D :
    [0xD0, 0xD1, 0xD2, 0xD3, 0xD4, 0xD5, 0xD6, 0xD7, 0xD8, 0xD9, 0xDA, 0xDB, 0xDC, 0xDD, 0xDE, 0xDF].map (fun op => reads [0xCB, op, 0x12]) = [
    some (.set2B, 1), some (.set2C, 1), some (.set2D, 1), some (.set2E, 1), some (.set2H, 1), some (.set2L, 1),
    some (.set2IndHL, 1), some (.set2A, 1), some (.set3B, 1), some (.set3C, 1), some (.set3D, 1), some (.set3E, 1),
    some (.set3H, 1), some (.set3L, 1), some (.set3IndHL, 1), some (.set3A, 1)] := rfl

theorem test_decode_cb_row_E :
    [0xE0, 0xE1, 0xE2, 0xE3, 0xE4, 0xE5, 0xE6, 0xE7, 0xE8, 0xE9, 0xEA, 0xEB, 0xEC, 0xED, 0xEE, 0xEF].map (fun op => reads [0xCB, op, 0x12]) = [
    some (.set4B, 1), some (.set4C, 1), some (.set4D, 1), some (.set4E, 1), some (.set4H, 1), some (.set4L, 1),
    some (.set4IndHL, 1), some (.set4A, 1), some (.set5B, 1), some (.set5C, 1), some (.set5D, 1), some (.set5E, 1),
    some (.set5H, 1), some (.set5L, 1), some (.set5IndHL, 1), some (.set5A, 1)] := rfl

theorem test_decode_cb_row_F :
    [0xF0, 0xF1, 0xF2, 0xF3, 0xF4, 0xF5, 0xF6, 0xF7, 0xF8, 0xF9, 0xFA, 0xFB, 0xFC, 0xFD, 0xFE, 0xFF].map (fun op => reads [0xCB, op, 0x12]) = [
    some (.set6B, 1), some (.set6C, 1), some (.set6D, 1), some (.set6E, 1), some (.set6H, 1), some (.set6L, 1),
    some (.set6IndHL, 1), some (.set6A, 1), some (.set7B, 1), some (.set7C, 1), some (.set7D, 1), some (.set7E, 1),
    some (.set7H, 1), some (.set7L, 1), some (.set7IndHL, 1), some (.set7A, 1)] := rfl

theorem test_decode_refuses_by_name :
    decode [] = .error .noOpcode ∧ decode [0x06] = .error .truncatedOperand ∧ decode [0xCB] = .error .truncatedOperand ∧
    decode [0xC3, 0x00] = .error .truncatedOperand := ⟨rfl, rfl, rfl, rfl⟩
/-- The table's rows number the opcode byte in bits 15 to 8 and a second byte in bits 7 to 0 (R165, log entry 18). -/
theorem test_decodeTableWord :
    [decodeTableWord 16 0x0000, decodeTableWord 16 0xCBFF, decodeTableWord 16 0xD300, decodeTableWord 16 0x3E7F] =
      [some .nop, some .set7A, some (.illegal 0xD3), some (.ldAn 0x7F)] := by decide
theorem test_withFetchWord_runs_it :
    (match step (State.reset.withFetchWord 16 0x3E7F) with
      | .next t => some (t.cpu.a, t.cpu.pc)
      | _ => none) = some (0x7F, 0x0102) := by decide

/-! ### One step each, from 95_test_vectors.md -/

/-- The registers the vectors start from. -/
def quiet : Cpu :=
  { a := 0, f := 0, b := 0, c := 0, d := 0, e := 0, h := 0, l := 0, sp := 0xFFFE, pc := 0xC000
    ime := false, halted := false, stopped := false, eiPending := false, haltBug := false, crashed := false }

/-- A machine with the LCD off and nothing requested or enabled. -/
def bench (c : Cpu) : State :=
  { State.reset with cpu := c, irq := ⟨0, 0⟩, ppu := { State.reset.ppu with lcdc := 0x11, mode := .hblank } }

/-- The bench with bytes at PC and elsewhere. -/
def setUp (bytes : List Byte) (c : Cpu) (cells : List (Word × Byte)) : State :=
  cells.foldl (fun s p => plantByte p.1 p.2 s) (plantBytes c.pc bytes (bench c))

/-- One step of that machine and the cycles it bills. -/
def runs (bytes : List Byte) (c : Cpu) (cells : List (Word × Byte)) : Option (State × Nat) :=
  match coreStep (setUp bytes c cells) with
  | .next r => some r
  | _ => none

theorem test_v1_ld_b_c : (runs [0x41] { quiet with c := 0x12 } []).map
    (fun r => (r.1.cpu.b, r.1.cpu.pc, r.2)) = some (0x12, 0xC001, 4) := by decide
theorem test_v3_ld_h_hl : (runs [0x66] { quiet with h := 0xC1, l := 0x0 } [(0xC100, 0x9A)]).map
    (fun r => (r.1.cpu.h, r.1.cpu.pc, r.2)) = some (0x9A, 0xC001, 8) := by decide
theorem test_v4_ld_l_hl : (runs [0x6E] { quiet with h := 0xC1, l := 0x0 } [(0xC100, 0x9A)]).map
    (fun r => (r.1.cpu.l, r.1.cpu.pc, r.2)) = some (0x9A, 0xC001, 8) := by decide
theorem test_v6_ld_hl_h : (runs [0x74] { quiet with h := 0xC1, l := 0x55 } []).map
    (fun r => (r.1.cpu.pc, memRead .host 0xC155 r.1, r.2)) = some (0xC001, 0xC1, 8) := by decide
theorem test_v7_ld_e_0xff : (runs [0x1E, 0xFF] { quiet with e := 0x0 } []).map
    (fun r => (r.1.cpu.e, r.1.cpu.pc, r.2)) = some (0xFF, 0xC002, 8) := by decide
theorem test_v9_ld_hl_0x7f : (runs [0x36, 0x7F] { quiet with h := 0xC2, l := 0x0 } []).map
    (fun r => (r.1.cpu.pc, memRead .host 0xC200 r.1, r.2)) = some (0xC002, 0x7F, 12) := by decide
theorem test_v10_ld_a_bc : (runs [0x0A] { quiet with b := 0xC2, c := 0x1 } [(0xC201, 0x33)]).map
    (fun r => (r.1.cpu.a, r.1.cpu.pc, r.2)) = some (0x33, 0xC001, 8) := by decide
theorem test_v12_ld_bc_a : (runs [0x02] { quiet with a := 0x55, b := 0xC2, c := 0x3 } []).map
    (fun r => (r.1.cpu.pc, memRead .host 0xC203 r.1, r.2)) = some (0xC001, 0x55, 8) := by decide
theorem test_v14_ld_a_0xc234 : (runs [0xFA, 0x34, 0xC2] quiet [(0xC234, 0x81)]).map
    (fun r => (r.1.cpu.a, r.1.cpu.pc, r.2)) = some (0x81, 0xC003, 16) := by decide
theorem test_v15_ld_0xc100_a : (runs [0xEA, 0x00, 0xC1] { quiet with a := 0x99 } []).map
    (fun r => (r.1.cpu.pc, memRead .host 0xC100 r.1, r.2)) = some (0xC003, 0x99, 16) := by decide
theorem test_v16_ldh_0x80_a : (runs [0xE0, 0x80] { quiet with a := 0xA5 } []).map
    (fun r => (r.1.cpu.pc, memRead .host 0xFF80 r.1, r.2)) = some (0xC002, 0xA5, 12) := by decide
theorem test_v17_ldh_a_0x80 : (runs [0xF0, 0x80] quiet [(0xFF80, 0x3C)]).map
    (fun r => (r.1.cpu.a, r.1.cpu.pc, r.2)) = some (0x3C, 0xC002, 12) := by decide
theorem test_v18_ldh_c_a : (runs [0xE2] { quiet with a := 0x42, c := 0x81 } []).map
    (fun r => (r.1.cpu.pc, memRead .host 0xFF81 r.1, r.2)) = some (0xC001, 0x42, 8) := by decide
theorem test_v19_ldh_a_c : (runs [0xF2] { quiet with c := 0x82 } [(0xFF82, 0x24)]).map
    (fun r => (r.1.cpu.a, r.1.cpu.pc, r.2)) = some (0x24, 0xC001, 8) := by decide
theorem test_v20_ld_hl_a : (runs [0x22] { quiet with a := 0x11, h := 0xC0, l := 0xFF } []).map
    (fun r => (r.1.cpu.h, r.1.cpu.l, r.1.cpu.pc, memRead .host 0xC0FF r.1, r.2)) = some (0xC1, 0x0, 0xC001, 0x11, 8) := by decide
theorem test_v21_ld_hl_a : (runs [0x32] { quiet with a := 0x22, h := 0xC1, l := 0x0 } []).map
    (fun r => (r.1.cpu.h, r.1.cpu.l, r.1.cpu.pc, memRead .host 0xC100 r.1, r.2)) = some (0xC0, 0xFF, 0xC001, 0x22, 8) := by decide
theorem test_v22_ld_a_hl : (runs [0x2A] { quiet with h := 0xFF, l := 0xFF } [(0xFFFF, 0x1F)]).map
    (fun r => (r.1.cpu.a, r.1.cpu.h, r.1.cpu.l, r.1.cpu.pc, r.2)) = some (0x1F, 0x0, 0x0, 0xC001, 8) := by decide
theorem test_v24_ld_a_hl : (runs [0x3A] { quiet with h := 0x0, l := 0x0 } [(0x0000, 0xC3)]).map
    (fun r => (r.1.cpu.a, r.1.cpu.h, r.1.cpu.l, r.1.cpu.pc, r.2)) = some (0xC3, 0xFF, 0xFF, 0xC001, 8) := by decide
theorem test_v25_ld_bc_0x1234 : (runs [0x01, 0x34, 0x12] quiet []).map
    (fun r => (r.1.cpu.b, r.1.cpu.c, r.1.cpu.pc, r.2)) = some (0x12, 0x34, 0xC003, 12) := by decide
theorem test_v28_ld_sp_0xdfff : (runs [0x31, 0xFF, 0xDF] quiet []).map
    (fun r => (r.1.cpu.sp, r.1.cpu.pc, r.2)) = some (0xDFFF, 0xC003, 12) := by decide
theorem test_v29_ld_0xc100_sp : (runs [0x08, 0x00, 0xC1] { quiet with sp := 0xFFF8 } []).map
    (fun r => (r.1.cpu.pc, memRead .host 0xC100 r.1, memRead .host 0xC101 r.1, r.2)) = some (0xC003, 0xF8, 0xFF, 20) := by decide
theorem test_v30_ld_sp_hl : (runs [0xF9] { quiet with h := 0xD1, l := 0x23, f := 0xF0 } []).map
    (fun r => (r.1.cpu.f, r.1.cpu.sp, r.1.cpu.pc, r.2)) = some (0xF0, 0xD123, 0xC001, 8) := by decide
theorem test_v31_ld_hl_sp_8 : (runs [0xF8, 0x08] { quiet with sp := 0xFFF8, f := 0xC0 } []).map
    (fun r => (r.1.cpu.f, r.1.cpu.h, r.1.cpu.l, r.1.cpu.pc, r.2)) = some (0x30, 0x0, 0x0, 0xC002, 12) := by decide
theorem test_v37_ld_hl_sp_128 : (runs [0xF8, 0x80] { quiet with sp := 0xD080 } []).map
    (fun r => (r.1.cpu.f, r.1.cpu.h, r.1.cpu.l, r.1.cpu.pc, r.2)) = some (0x10, 0xD0, 0x0, 0xC002, 12) := by decide
theorem test_v39_push_bc : (runs [0xC5] { quiet with b := 0x12, c := 0x34, sp := 0xD000 } []).map
    (fun r => (r.1.cpu.sp, r.1.cpu.pc, memRead .host 0xCFFF r.1, memRead .host 0xCFFE r.1, r.2)) = some (0xCFFE, 0xC001, 0x12, 0x34, 16) := by decide
theorem test_v40_push_af : (runs [0xF5] { quiet with a := 0x12, f := 0xB0, sp := 0xD000 } []).map
    (fun r => (r.1.cpu.sp, r.1.cpu.pc, memRead .host 0xCFFF r.1, memRead .host 0xCFFE r.1, r.2)) = some (0xCFFE, 0xC001, 0x12, 0xB0, 16) := by decide
theorem test_v41_push_hl : (runs [0xE5] { quiet with h := 0xBE, l := 0xEF, sp := 0x0 } []).map
    (fun r => (r.1.cpu.sp, r.1.cpu.pc, memRead .host 0xFFFF r.1, memRead .host 0xFFFE r.1, r.2)) = some (0xFFFE, 0xC001, 0xBE, 0xEF, 16) := by decide
theorem test_v42_pop_de : (runs [0xD1] { quiet with sp := 0xCFFE } [(0xCFFE, 0x78), (0xCFFF, 0x56)]).map
    (fun r => (r.1.cpu.d, r.1.cpu.e, r.1.cpu.sp, r.1.cpu.pc, r.2)) = some (0x56, 0x78, 0xD000, 0xC001, 12) := by decide
theorem test_v43_pop_af : (runs [0xF1] { quiet with sp := 0xCFFE } [(0xCFFE, 0xFF), (0xCFFF, 0x12)]).map
    (fun r => (r.1.cpu.a, r.1.cpu.f, r.1.cpu.sp, r.1.cpu.pc, r.2)) = some (0x12, 0xF0, 0xD000, 0xC001, 12) := by decide
theorem test_v44_pop_af : (runs [0xF1] { quiet with sp := 0xCFFE, f := 0xF0 } [(0xCFFE, 0x0F), (0xCFFF, 0x00)]).map
    (fun r => (r.1.cpu.a, r.1.cpu.f, r.1.cpu.sp, r.1.cpu.pc, r.2)) = some (0x0, 0x0, 0xD000, 0xC001, 12) := by decide
theorem test_v45_pop_hl : (runs [0xE1] { quiet with sp := 0xFFFF } [(0xFFFF, 0x34), (0x0000, 0x12)]).map
    (fun r => (r.1.cpu.h, r.1.cpu.l, r.1.cpu.sp, r.1.cpu.pc, r.2)) = some (0x12, 0x34, 0x1, 0xC001, 12) := by decide
theorem test_v46_add_a_b : (runs [0x80] { quiet with a := 0x3A, b := 0xC6 } []).map
    (fun r => (r.1.cpu.a, r.1.cpu.f, r.1.cpu.pc, r.2)) = some (0x0, 0xB0, 0xC001, 4) := by decide
theorem test_v49_add_a_hl : (runs [0x86] { quiet with a := 0xF0, h := 0xC1, l := 0x0 } [(0xC100, 0x20)]).map
    (fun r => (r.1.cpu.a, r.1.cpu.f, r.1.cpu.pc, r.2)) = some (0x10, 0x10, 0xC001, 8) := by decide
theorem test_v50_adc_a_0x00 : (runs [0xCE, 0x00] { quiet with a := 0xFF, f := 0x10 } []).map
    (fun r => (r.1.cpu.a, r.1.cpu.f, r.1.cpu.pc, r.2)) = some (0x0, 0xB0, 0xC002, 8) := by decide
theorem test_v53_adc_a_c : (runs [0x89] { quiet with a := 0xE1, c := 0xF, f := 0x10 } []).map
    (fun r => (r.1.cpu.a, r.1.cpu.f, r.1.cpu.pc, r.2)) = some (0xF1, 0x20, 0xC001, 4) := by decide
theorem test_v55_sub_0x01 : (runs [0xD6, 0x01] { quiet with a := 0x10 } []).map
    (fun r => (r.1.cpu.a, r.1.cpu.f, r.1.cpu.pc, r.2)) = some (0xF, 0x60, 0xC002, 8) := by decide
theorem test_v57_sub_hl : (runs [0x96] { quiet with a := 0x3E, h := 0xC1, l := 0x0 } [(0xC100, 0x40)]).map
    (fun r => (r.1.cpu.a, r.1.cpu.f, r.1.cpu.pc, r.2)) = some (0xFE, 0x50, 0xC001, 8) := by decide
theorem test_v58_sbc_a_0x00 : (runs [0xDE, 0x00] { quiet with a := 0x0, f := 0x10 } []).map
    (fun r => (r.1.cpu.a, r.1.cpu.f, r.1.cpu.pc, r.2)) = some (0xFF, 0x70, 0xC002, 8) := by decide
theorem test_v62_sbc_a_h : (runs [0x9C] { quiet with a := 0x3B, h := 0x2A, f := 0x10 } []).map
    (fun r => (r.1.cpu.a, r.1.cpu.f, r.1.cpu.pc, r.2)) = some (0x10, 0x40, 0xC001, 4) := by decide
theorem test_v63_and_0x0f : (runs [0xE6, 0x0F] { quiet with a := 0xF0, f := 0x50 } []).map
    (fun r => (r.1.cpu.a, r.1.cpu.f, r.1.cpu.pc, r.2)) = some (0x0, 0xA0, 0xC002, 8) := by decide
theorem test_v66_xor_0x0f : (runs [0xEE, 0x0F] { quiet with a := 0xFF } []).map
    (fun r => (r.1.cpu.a, r.1.cpu.f, r.1.cpu.pc, r.2)) = some (0xF0, 0x0, 0xC002, 8) := by decide
theorem test_v68_or_hl : (runs [0xB6] { quiet with a := 0x5A, h := 0xC1, l := 0x0 } [(0xC100, 0x0F)]).map
    (fun r => (r.1.cpu.a, r.1.cpu.f, r.1.cpu.pc, r.2)) = some (0x5F, 0x0, 0xC001, 8) := by decide
theorem test_v70_cp_0x40 : (runs [0xFE, 0x40] { quiet with a := 0x3C } []).map
    (fun r => (r.1.cpu.a, r.1.cpu.f, r.1.cpu.pc, r.2)) = some (0x3C, 0x50, 0xC002, 8) := by decide
theorem test_v71_cp_0x2f : (runs [0xFE, 0x2F] { quiet with a := 0x3C } []).map
    (fun r => (r.1.cpu.a, r.1.cpu.f, r.1.cpu.pc, r.2)) = some (0x3C, 0x60, 0xC002, 8) := by decide
theorem test_v74_inc_b : (runs [0x04] { quiet with b := 0xF, f := 0xC0 } []).map
    (fun r => (r.1.cpu.f, r.1.cpu.b, r.1.cpu.pc, r.2)) = some (0x20, 0x10, 0xC001, 4) := by decide
theorem test_v75_inc_hl : (runs [0x34] { quiet with h := 0xC1, l := 0x0, f := 0x10 } [(0xC100, 0x7F)]).map
    (fun r => (r.1.cpu.f, r.1.cpu.pc, memRead .host 0xC100 r.1, r.2)) = some (0x30, 0xC001, 0x80, 12) := by decide
theorem test_v76_dec_a : (runs [0x3D] { quiet with a := 0x0, f := 0x10 } []).map
    (fun r => (r.1.cpu.a, r.1.cpu.f, r.1.cpu.pc, r.2)) = some (0xFF, 0x70, 0xC001, 4) := by decide
theorem test_v79_dec_hl : (runs [0x35] { quiet with h := 0xC1, l := 0x0 } [(0xC100, 0x00)]).map
    (fun r => (r.1.cpu.f, r.1.cpu.pc, memRead .host 0xC100 r.1, r.2)) = some (0x60, 0xC001, 0xFF, 12) := by decide
theorem test_v81_daa : (runs [0x27] { quiet with a := 0x9A, f := 0x0 } []).map
    (fun r => (r.1.cpu.a, r.1.cpu.f, r.1.cpu.pc, r.2)) = some (0x0, 0x90, 0xC001, 4) := by decide
theorem test_v83_daa : (runs [0x27] { quiet with a := 0x0, f := 0x70 } []).map
    (fun r => (r.1.cpu.a, r.1.cpu.f, r.1.cpu.pc, r.2)) = some (0x9A, 0x50, 0xC001, 4) := by decide
theorem test_v88_cpl : (runs [0x2F] { quiet with a := 0x35, f := 0x90 } []).map
    (fun r => (r.1.cpu.a, r.1.cpu.f, r.1.cpu.pc, r.2)) = some (0xCA, 0xF0, 0xC001, 4) := by decide
theorem test_v89_scf : (runs [0x37] { quiet with f := 0xE0 } []).map
    (fun r => (r.1.cpu.f, r.1.cpu.pc, r.2)) = some (0x90, 0xC001, 4) := by decide
theorem test_v90_ccf : (runs [0x3F] { quiet with f := 0xF0 } []).map
    (fun r => (r.1.cpu.f, r.1.cpu.pc, r.2)) = some (0x80, 0xC001, 4) := by decide
theorem test_v92_add_hl_bc : (runs [0x09] { quiet with h := 0xF, l := 0xFF, b := 0x0, c := 0x1, f := 0x80 } []).map
    (fun r => (r.1.cpu.f, r.1.cpu.h, r.1.cpu.l, r.1.cpu.pc, r.2)) = some (0xA0, 0x10, 0x0, 0xC001, 8) := by decide
theorem test_v95_add_hl_hl : (runs [0x29] { quiet with h := 0x8A, l := 0x23 } []).map
    (fun r => (r.1.cpu.f, r.1.cpu.h, r.1.cpu.l, r.1.cpu.pc, r.2)) = some (0x30, 0x14, 0x46, 0xC001, 8) := by decide
theorem test_v97_inc_bc : (runs [0x03] { quiet with b := 0xFF, c := 0xFF, f := 0x0 } []).map
    (fun r => (r.1.cpu.f, r.1.cpu.b, r.1.cpu.c, r.1.cpu.pc, r.2)) = some (0x0, 0x0, 0x0, 0xC001, 8) := by decide
theorem test_v99_inc_sp : (runs [0x33] { quiet with sp := 0xFFFF } []).map
    (fun r => (r.1.cpu.sp, r.1.cpu.pc, r.2)) = some (0x0, 0xC001, 8) := by decide
theorem test_v100_dec_de : (runs [0x1B] { quiet with d := 0x0, e := 0x0, f := 0xF0 } []).map
    (fun r => (r.1.cpu.f, r.1.cpu.d, r.1.cpu.e, r.1.cpu.pc, r.2)) = some (0xF0, 0xFF, 0xFF, 0xC001, 8) := by decide
theorem test_v101_dec_sp : (runs [0x3B] { quiet with sp := 0x0 } []).map
    (fun r => (r.1.cpu.sp, r.1.cpu.pc, r.2)) = some (0xFFFF, 0xC001, 8) := by decide
theorem test_v102_add_sp_1 : (runs [0xE8, 0x01] { quiet with sp := 0xFFFF, f := 0xC0 } []).map
    (fun r => (r.1.cpu.f, r.1.cpu.sp, r.1.cpu.pc, r.2)) = some (0x30, 0x0, 0xC002, 16) := by decide
theorem test_v106_add_sp_128 : (runs [0xE8, 0x80] { quiet with sp := 0xD000 } []).map
    (fun r => (r.1.cpu.f, r.1.cpu.sp, r.1.cpu.pc, r.2)) = some (0x0, 0xCF80, 0xC002, 16) := by decide
theorem test_v108_rlca : (runs [0x07] { quiet with a := 0x80, f := 0xE0 } []).map
    (fun r => (r.1.cpu.a, r.1.cpu.f, r.1.cpu.pc, r.2)) = some (0x1, 0x10, 0xC001, 4) := by decide
theorem test_v110_rrca : (runs [0x0F] { quiet with a := 0x1 } []).map
    (fun r => (r.1.cpu.a, r.1.cpu.f, r.1.cpu.pc, r.2)) = some (0x80, 0x10, 0xC001, 4) := by decide
theorem test_v112_rla : (runs [0x17] { quiet with a := 0x0, f := 0x10 } []).map
    (fun r => (r.1.cpu.a, r.1.cpu.f, r.1.cpu.pc, r.2)) = some (0x1, 0x0, 0xC001, 4) := by decide
theorem test_v114_rra : (runs [0x1F] { quiet with a := 0x1, f := 0x80 } []).map
    (fun r => (r.1.cpu.a, r.1.cpu.f, r.1.cpu.pc, r.2)) = some (0x0, 0x10, 0xC001, 4) := by decide
theorem test_v116_rlc_b : (runs [0xCB, 0x00] { quiet with b := 0x85 } []).map
    (fun r => (r.1.cpu.f, r.1.cpu.b, r.1.cpu.pc, r.2)) = some (0x10, 0xB, 0xC002, 8) := by decide
theorem test_v117_rlc_hl : (runs [0xCB, 0x06] { quiet with h := 0xC1, l := 0x0 } [(0xC100, 0x80)]).map
    (fun r => (r.1.cpu.f, r.1.cpu.pc, memRead .host 0xC100 r.1, r.2)) = some (0x10, 0xC002, 0x01, 16) := by decide
theorem test_v118_rrc_c : (runs [0xCB, 0x09] { quiet with c := 0x1 } []).map
    (fun r => (r.1.cpu.f, r.1.cpu.c, r.1.cpu.pc, r.2)) = some (0x10, 0x80, 0xC002, 8) := by decide
theorem test_v120_rl_d : (runs [0xCB, 0x12] { quiet with d := 0x0, f := 0x10 } []).map
    (fun r => (r.1.cpu.f, r.1.cpu.d, r.1.cpu.pc, r.2)) = some (0x0, 0x1, 0xC002, 8) := by decide
theorem test_v122_rr_a : (runs [0xCB, 0x1F] { quiet with a := 0x0, f := 0x10 } []).map
    (fun r => (r.1.cpu.a, r.1.cpu.f, r.1.cpu.pc, r.2)) = some (0x80, 0x0, 0xC002, 8) := by decide
theorem test_v124_sla_h : (runs [0xCB, 0x24] { quiet with h := 0xFF, f := 0x10 } []).map
    (fun r => (r.1.cpu.f, r.1.cpu.h, r.1.cpu.pc, r.2)) = some (0x10, 0xFE, 0xC002, 8) := by decide
theorem test_v125_sra_l : (runs [0xCB, 0x2D] { quiet with l := 0x81 } []).map
    (fun r => (r.1.cpu.f, r.1.cpu.l, r.1.cpu.pc, r.2)) = some (0x10, 0xC0, 0xC002, 8) := by decide
theorem test_v127_swap_a : (runs [0xCB, 0x37] { quiet with a := 0xF1, f := 0xF0 } []).map
    (fun r => (r.1.cpu.a, r.1.cpu.f, r.1.cpu.pc, r.2)) = some (0x1F, 0x0, 0xC002, 8) := by decide
theorem test_v129_swap_hl : (runs [0xCB, 0x36] { quiet with h := 0xC1, l := 0x0 } [(0xC100, 0x12)]).map
    (fun r => (r.1.cpu.f, r.1.cpu.pc, memRead .host 0xC100 r.1, r.2)) = some (0x0, 0xC002, 0x21, 16) := by decide
theorem test_v130_srl_b : (runs [0xCB, 0x38] { quiet with b := 0x1 } []).map
    (fun r => (r.1.cpu.f, r.1.cpu.b, r.1.cpu.pc, r.2)) = some (0x90, 0x0, 0xC002, 8) := by decide
theorem test_v133_bit_7_h : (runs [0xCB, 0x7C] { quiet with h := 0x7F, f := 0x0 } []).map
    (fun r => (r.1.cpu.f, r.1.cpu.h, r.1.cpu.pc, r.2)) = some (0xA0, 0x7F, 0xC002, 8) := by decide
theorem test_v134_bit_0_hl : (runs [0xCB, 0x46] { quiet with h := 0xC1, l := 0x0, f := 0x10 } [(0xC100, 0xFE)]).map
    (fun r => (r.1.cpu.f, r.1.cpu.pc, r.2)) = some (0xB0, 0xC002, 12) := by decide
theorem test_v137_res_3_hl : (runs [0xCB, 0x9E] { quiet with h := 0xC1, l := 0x0 } [(0xC100, 0xFF)]).map
    (fun r => (r.1.cpu.pc, memRead .host 0xC100 r.1, r.2)) = some (0xC002, 0xF7, 16) := by decide
theorem test_v139_set_7_hl : (runs [0xCB, 0xFE] { quiet with h := 0xC1, l := 0x0 } [(0xC100, 0x00)]).map
    (fun r => (r.1.cpu.pc, memRead .host 0xC100 r.1, r.2)) = some (0xC002, 0x80, 16) := by decide
theorem test_v140_set_0_c : (runs [0xCB, 0xC1] { quiet with c := 0x1, f := 0xF0 } []).map
    (fun r => (r.1.cpu.f, r.1.cpu.c, r.1.cpu.pc, r.2)) = some (0xF0, 0x1, 0xC002, 8) := by decide
theorem test_v142_jp_0x1234 : (runs [0xC3, 0x34, 0x12] quiet []).map
    (fun r => (r.1.cpu.pc, r.2)) = some (0x1234, 16) := by decide
theorem test_v143_jp_nz_0xc100 : (runs [0xC2, 0x00, 0xC1] { quiet with f := 0x0 } []).map
    (fun r => (r.1.cpu.pc, r.2)) = some (0xC100, 16) := by decide
theorem test_v144_jp_nz_0xc100 : (runs [0xC2, 0x00, 0xC1] { quiet with f := 0x80 } []).map
    (fun r => (r.1.cpu.pc, r.2)) = some (0xC003, 12) := by decide
theorem test_v148_jp_hl : (runs [0xE9] { quiet with h := 0x80, l := 0x0 } []).map
    (fun r => (r.1.cpu.pc, r.2)) = some (0x8000, 4) := by decide
theorem test_v151_jr_128 : (runs [0x18, 0x80] quiet []).map
    (fun r => (r.1.cpu.pc, r.2)) = some (0xBF82, 12) := by decide
theorem test_v154_jr_1 : (runs [0x18, 0x01] { quiet with pc := 0xFFFD } []).map
    (fun r => (r.1.cpu.pc, r.2)) = some (0x0, 12) := by decide
theorem test_v155_jr_nz_2 : (runs [0x20, 0xFE] { quiet with f := 0x80 } []).map
    (fun r => (r.1.cpu.pc, r.2)) = some (0xC002, 8) := by decide
theorem test_v156_jr_nz_2 : (runs [0x20, 0xFE] { quiet with f := 0x0 } []).map
    (fun r => (r.1.cpu.pc, r.2)) = some (0xC000, 12) := by decide
theorem test_v160_call_0xc200 : (runs [0xCD, 0x00, 0xC2] { quiet with sp := 0xD000 } []).map
    (fun r => (r.1.cpu.sp, r.1.cpu.pc, memRead .host 0xCFFF r.1, memRead .host 0xCFFE r.1, r.2)) = some (0xCFFE, 0xC200, 0xC0, 0x03, 24) := by decide
theorem test_v161_call_nz_0xc200 : (runs [0xC4, 0x00, 0xC2] { quiet with sp := 0xD000, f := 0x80 } []).map
    (fun r => (r.1.cpu.pc, r.2)) = some (0xC003, 12) := by decide
theorem test_v164_call_nc_0xc200 : (runs [0xD4, 0x00, 0xC2] { quiet with sp := 0xD000, f := 0x0, pc := 0xC0FE } []).map
    (fun r => (r.1.cpu.sp, r.1.cpu.pc, memRead .host 0xCFFF r.1, memRead .host 0xCFFE r.1, r.2)) = some (0xCFFE, 0xC200, 0xC1, 0x01, 24) := by decide
theorem test_v165_ret : (runs [0xC9] { quiet with sp := 0xCFFE } [(0xCFFE, 0x03), (0xCFFF, 0xC0)]).map
    (fun r => (r.1.cpu.sp, r.1.cpu.pc, r.2)) = some (0xD000, 0xC003, 16) := by decide
theorem test_v166_ret_nz : (runs [0xC0] { quiet with sp := 0xCFFE, f := 0x80 } [(0xCFFE, 0x03), (0xCFFF, 0xC0)]).map
    (fun r => (r.1.cpu.pc, r.2)) = some (0xC001, 8) := by decide
theorem test_v167_ret_nz : (runs [0xC0] { quiet with sp := 0xCFFE, f := 0x0 } [(0xCFFE, 0x03), (0xCFFF, 0xC0)]).map
    (fun r => (r.1.cpu.sp, r.1.cpu.pc, r.2)) = some (0xD000, 0xC003, 20) := by decide
theorem test_v169_reti : (runs [0xD9] { quiet with sp := 0xCFFE, ime := false } [(0xCFFE, 0x50), (0xCFFF, 0x01)]).map
    (fun r => (r.1.cpu.sp, r.1.cpu.pc, r.1.cpu.ime, r.2)) = some (0xD000, 0x150, true, 16) := by decide
theorem test_v170_reti : (runs [0xD9] { quiet with sp := 0xCFFE, ime := false, eiPending := true } [(0xCFFE, 0x50), (0xCFFF, 0x01)]).map
    (fun r => (r.1.cpu.sp, r.1.cpu.pc, r.1.cpu.ime, r.1.cpu.eiPending, r.2)) = some (0xD000, 0x150, true, false, 16) := by decide
theorem test_v171_rst_0x38 : (runs [0xFF] { quiet with sp := 0xD000 } []).map
    (fun r => (r.1.cpu.sp, r.1.cpu.pc, memRead .host 0xCFFF r.1, memRead .host 0xCFFE r.1, r.2)) = some (0xCFFE, 0x38, 0xC0, 0x01, 16) := by decide
theorem test_v173_rst_0x28 : (runs [0xEF] { quiet with sp := 0xFF82 } []).map
    (fun r => (r.1.cpu.sp, r.1.cpu.pc, memRead .host 0xFF81 r.1, memRead .host 0xFF80 r.1, r.2)) = some (0xFF80, 0x28, 0xC0, 0x01, 16) := by decide
theorem test_v174_nop : (runs [0x00] { quiet with f := 0xF0 } []).map
    (fun r => (r.1.cpu.f, r.1.cpu.pc, r.2)) = some (0xF0, 0xC001, 4) := by decide
theorem test_v176_di : (runs [0xF3] { quiet with ime := false, eiPending := true } []).map
    (fun r => (r.1.cpu.pc, r.1.cpu.ime, r.1.cpu.eiPending, r.2)) = some (0xC001, false, false, 4) := by decide
theorem test_v177_ei : (runs [0xFB] { quiet with ime := false } []).map
    (fun r => (r.1.cpu.pc, r.1.cpu.ime, r.1.cpu.eiPending, r.2)) = some (0xC001, false, true, 4) := by decide
theorem test_v182_halt : (runs [0x76] { quiet with ime := false } []).map
    (fun r => (r.1.cpu.pc, r.1.cpu.halted, r.1.cpu.haltBug, r.2)) = some (0xC001, true, false, 4) := by decide
theorem test_v184_halt : (runs [0x76] { quiet with ime := false } [(0xFFFF, 0x04), (0xFF0F, 0x04)]).map
    (fun r => (r.1.cpu.pc, r.1.cpu.halted, r.1.cpu.haltBug, r.2)) = some (0xC001, false, true, 4) := by decide
theorem test_v188_stop : (runs [0x10, 0x00] quiet []).map
    (fun r => (r.1.cpu.pc, r.1.cpu.stopped, r.2)) = some (0xC002, true, 4) := by decide
theorem test_v190_illegal_0xd3 : (runs [0xD3] { quiet with a := 0x12 } []).map
    (fun r => (r.1.cpu.pc, r.1.cpu.crashed, r.2)) = some (0xC001, true, 0) := by decide
/-! ### Interrupts, devices, memory and the host's calls -/

theorem test_i1_dispatch_vblank : (runs [0x00] { quiet with ime := true, sp := 0xD000 }
      [(0x0040, 0x00), (0xFFFF, 0x1F), (0xFF0F, 0x1F)]).map
    (fun r => (r.1.irq.ifReg, r.1.cpu.ime, r.1.cpu.sp, memRead .host 0xCFFF r.1, r.1.cpu.pc, r.2)) =
    some (0x1E, false, 0xCFFE, 0xC0, 0x0041, 24) := by decide
theorem test_i2_dispatch_joypad : (runs [0x00] { quiet with ime := true, sp := 0xD000 }
      [(0x0060, 0x3C), (0xFFFF, 0x10), (0xFF0F, 0x1F)]).map
    (fun r => (r.1.irq.ifReg, r.1.cpu.a, r.1.cpu.sp, r.1.cpu.pc, r.2)) = some (0x0F, 0x01, 0xCFFE, 0x0061, 24) := by decide
theorem test_i6_illegal_at_vector : (runs [0x00] { quiet with ime := true, sp := 0xD000 }
      [(0x0048, 0xDD), (0xFFFF, 0x02), (0xFF0F, 0x02)]).map
    (fun r => (r.1.irq.ifReg, r.1.cpu.crashed, r.1.cpu.sp, r.1.cpu.pc, r.2)) = some (0x00, true, 0xCFFE, 0x0049, 20) := by decide
theorem test_i12_push_over_ie : (runs [] { quiet with ime := true, sp := 0x0001, pc := 0xC012 }
      [(0xFFFF, 0x04), (0xFF0F, 0x04)]).map
    (fun r => (r.1.irq.ifReg, r.1.irq.ie, r.1.cpu.sp, r.1.cpu.pc, r.2)) = some (0x00, 0x12, 0xFFFF, 0x0051, 24) := by decide
theorem test_v185_halt_bug_repeats : (runs [0x3C, 0x3C] { quiet with haltBug := true } []).map
    (fun r => (r.1.cpu.a, r.1.cpu.haltBug, r.1.cpu.pc, r.2)) = some (0x01, false, 0xC000, 4) := by decide

/-- The bench with the timer as given. -/
def timed (tima tma : Byte) (tac : BitVec 3) (count : Nat) : State :=
  { bench quiet with timer := { div := 0xAB, tima := tima, tma := tma, tac := tac, divCounter := 0, timaCounter := count } }

theorem test_t4_overflow : (timerTick 4 (timed 0xFF 0x00 4 1020)).timer.tima = 0x00 ∧
    (timerTick 4 (timed 0xFF 0x00 4 1020)).timer.timaCounter = 0 ∧
    (timerTick 4 (timed 0xFF 0x00 4 1020)).irq.ifReg = 0x04 := by decide
theorem test_t6_disabled : (timerTick 1024 (timed 0x10 0x00 0 0)).timer =
    { div := 0xAF, tima := 0x10, tma := 0x00, tac := 0, divCounter := 0, timaCounter := 0 } := by decide
theorem test_t9_three_increments : (timerTick 44 (timed 0xFE 0x80 5 15)).timer.tima = 0x81 ∧
    (timerTick 44 (timed 0xFE 0x80 5 15)).timer.timaCounter = 11 ∧
    (timerTick 44 (timed 0xFE 0x80 5 15)).irq.ifReg = 0x04 := by decide

/-- The bench with the LCD on at the given dot of line 0. -/
def lit (statEn : BitVec 4) (lyc : Byte) (dot : Nat) (mode : LcdMode) : State :=
  { bench quiet with ppu := { State.reset.ppu with statEn := statEn, lyc := lyc, scanCounter := dot, mode := mode } }

theorem test_k2_mode3 : (ppuTick 80 (lit 1 0 0 .oamScan)).ppu.mode = .transfer ∧
    (ppuTick 80 (lit 1 0 0 .oamScan)).irq.ifReg = 0 := by decide
theorem test_k12_excess_kept : (ppuTick 12 (lit 0 0 76 .oamScan)).ppu.scanCounter = 88 ∧
    (ppuTick 12 (lit 0 0 76 .oamScan)).ppu.mode = .transfer := by decide
theorem test_k13_line_change : (ppuTick 44 (lit 5 0 452 .hblank)).ppu.ly = 1 ∧
    (ppuTick 44 (lit 5 0 452 .hblank)).ppu.scanCounter = 40 ∧ (ppuTick 44 (lit 5 0 452 .hblank)).ppu.mode = .oamScan ∧
    (ppuTick 44 (lit 5 0 452 .hblank)).irq.ifReg = 0x02 := by decide
theorem test_k15_lcd_off : ppuTick 1000 (bench quiet) = bench quiet := rfl

/-- Scenario 4 (G1): two sprites over colour 0, of OAM entries 2 and 5, at the same place. -/
def twoSprites : State :=
  let s := { bench quiet with ppu := { State.reset.ppu with lcdc := 0x93, bgp := 0xE4, obp0 := 0xE4, obp1 := 0x1B } }
  let s := (s.poke .vram 0x10 0xFF).poke .vram 0x21 0xFF
  let s := (((s.poke .oam 8 56).poke .oam 9 48).poke .oam 10 1).poke .oam 11 0
  (((s.poke .oam 20 56).poke .oam 21 48).poke .oam 22 2).poke .oam 23 0

theorem test_g1_sprite_priority :
    [39, 40, 47, 48].map (fun x => (linePixel twoSprites 40 (spriteOrder twoSprites 40) x).1) =
      [⟨255, 255, 255⟩, ⟨170, 170, 170⟩, ⟨170, 170, 170⟩, ⟨255, 255, 255⟩] := by decide
theorem test_g9_colour_expansion : expand5 0x1F = 255 ∧ expand5 0x10 = 132 := by decide

/-- The writes of a vector, one after another. -/
def writes (s : State) (l : List (Word × Byte)) : State := l.foldl (fun s p => memWrite p.1 p.2 s) s

/-- The bench with a mapper and image sizes. -/
def carted (kind : MapperKind) (rom ram : Nat) : State :=
  { bench quiet with mapper := .reset kind, cfg := { Config.default with romSize := rom, ramSize := ram } }

theorem test_m1_m2_echo : memRead .host 0xE123 (writes (bench quiet) [(0xC123, 0x5A)]) = 0x5A ∧
    memRead .host 0xDDFF (writes (bench quiet) [(0xFDFF, 0xA5)]) = 0xA5 := by decide
theorem test_m5_if_high_bits : memRead .host 0xFF0F (writes (bench quiet) [(0xFF0F, 0x00)]) = 0xE0 ∧
    memRead .host 0xFF0F (writes (bench quiet) [(0xFF0F, 0xFF)]) = 0xFF := by decide
theorem test_m11_lcd_off_and_on :
    memRead .host 0xFF41 (writes (lit 0 0 0 .oamScan) [(0xFF40, 0x11)]) = 0x84 ∧
    memRead .host 0xFF41 (writes (lit 0 0 0 .oamScan) [(0xFF40, 0x11), (0xFF40, 0x91)]) = 0x86 := by decide
theorem test_m16_mode3_lock : memRead .host 0x8000 (lit 0 0 100 .transfer) = 0xFF ∧
    writes (lit 0 0 100 .transfer) [(0x8000, 0x12), (0xFE00, 0x34)] = lit 0 0 100 .transfer := ⟨by decide, rfl⟩
theorem test_m22_mbc1_mode :
    memRead .host 0x4000 (writes ((carted .mbc1 0x200000 0).poke .rom 0x84000 0x9D)
      [(0x2000, 0x01), (0x4000, 0x01), (0x6000, 0x01)]) = 0x00 ∧
    memRead .host 0x4000 (writes ((carted .mbc1 0x200000 0).poke .rom 0x4000 0x9D)
      [(0x2000, 0x01), (0x4000, 0x01), (0x6000, 0x01)]) = 0x9D := by decide
/-- D21: raw access has no RAM-enable gate; R14, D22: ROM offsets are taken modulo the image size. -/
theorem test_raw_read_behind_closed_latch :
    rawRead .host 0xA000 ((carted .mbc1 0x8000 0x2000).poke .cartRam 0 0x5A) = 0x5A ∧
    memRead .host 0xA000 ((carted .mbc1 0x8000 0x2000).poke .cartRam 0 0x5A) = 0xFF := by decide
theorem test_rom_offset_modulo_image :
    memRead .host 0x0200 ((carted .none 0x0180 0).poke .rom 0x80 0x9D) = 0x9D := by decide
theorem test_m26_mbc2_nibbles :
    memRead .host 0xA200 (writes (carted .mbc2 0x40000 0) [(0x0000, 0x0A), (0xA000, 0xAB)]) = 0xFB := by decide
theorem test_m28_mbc3_clock :
    memRead .host 0xBFFF (writes (carted .mbc3 0x8000 0x8000) [(0x0000, 0x0A), (0x4000, 0x08), (0xA000, 0x3B)]) = 0x3B ∧
    memRead .host 0xA000 (writes (carted .mbc3 0x8000 0x8000) [(0x0000, 0x0A), (0x4000, 0x05)]) = 0xFF := by decide
theorem test_m29_mbc5_bank_zero :
    memRead .host 0x4000 (writes ((carted .mbc5 0x800000 0).poke .rom 0 0x9D) [(0x2000, 0x00)]) = 0x9D := by decide
theorem test_j1_buttons : memRead .host 0xFF00 (writes (setJoypad 0x90 (bench quiet)) [(0xFF00, 0x10)]) = 0xD6 := by decide
theorem test_j5_press_ends_stop :
    (setJoypad 0x02 (bench { quiet with stopped := true })).cpu.stopped = false ∧
    (setJoypad 0x02 (bench { quiet with stopped := true })).irq.ifReg = 0x10 := by decide
theorem test_h6_budget_on_illegal :
    (match hostStep 8 (setUp [0xD3] quiet []) with
      | .next r => some r.2
      | _ => none) = some { cyclesRan := 0, frameReady := false, crashed := true } := by decide

/-! ### Witnesses: the hypotheses of each obligation, met together -/

/-- Sets the stack pointer and the two bytes on top of the stack. -/
def stacked (sp : Word) (low high : Byte) (f : Byte) : State :=
  setUp [] { quiet with sp := sp, f := f } [(sp, low), (sp + 1, high)]

theorem witness_o2_decodes : decode [0xCB, 0x00, 0x00] = .ok (.rlcB, [0x00]) ∧
    decode [0xFD, 0x00, 0x00] = .ok (.illegal 0xFD, [0x00, 0x00]) := ⟨rfl, rfl⟩
theorem witness_o3_wellFormed : (Instr.illegal 0xFD).WellFormed ∧ (Instr.ldBCnn 0xFFFF).WellFormed := by decide
theorem witness_o4_decodes : decode [0x01, 0xFF, 0xFF, 0x00] = .ok (.ldBCnn 0xFFFF, [0x00]) := rfl
theorem witness_o5_illegal : decode [0xD3] = .ok (.illegal 0xD3, []) ∧
    0xD3 ∈ [0xD3#8, 0xDB, 0xDD, 0xE3, 0xE4, 0xEB, 0xEC, 0xED, 0xF4, 0xFC, 0xFD] ∧
    0xFD ∈ [0xD3#8, 0xDB, 0xDD, 0xE3, 0xE4, 0xEB, 0xEC, 0xED, 0xF4, 0xFC, 0xFD] := ⟨rfl, by decide, by decide⟩
theorem witness_o9_mbc5 : (carted .mbc5 0x8000 0).mapper = .mbc5 { ramEnable := false, romBank := 1, ramBank := 0 } := rfl
/-- Also O7, O12, O13 and O19: addresses at the ends of the plain ranges, and a word that lies in two of them. -/
theorem witness_o12_cells :
    [0x8000#16, 0x9FFF, 0xC000, 0xDFFF, 0xE000, 0xFDFF, 0xFE00, 0xFE9F, 0xFF80, 0xFFFE].all
      (fun a => cellOf (bench quiet) a != none) = true ∧
    [0xA000#16, 0xBFFF].all (fun a => cellOf (writes (carted .mbc5 0x8000 0x2000) [(0x0000, 0x0A)]) a != none) = true := by
  decide
theorem witness_o13_stack_cells :
    cellOf (bench quiet) ((bench quiet).cpu.sp - 1) ≠ none ∧ cellOf (bench quiet) ((bench quiet).cpu.sp - 2) ≠ none := by decide
theorem witness_o14_o32_topOfStack :
    TopOfStack (stacked 0xCFFE 0x34 0x12 0x00) 0x1234 ∧ TopOfStack (stacked 0xFFFF 0x1F 0x00 0x80) 0x001F := by
  unfold TopOfStack; decide
theorem witness_o15_carry : (AluOp.adc = .add ∨ AluOp.adc = .adc) ∧ (stacked 0xFFFE 0 0 0x10).flagC = true := by decide
theorem witness_o16_borrow : (AluOp.sbc = .sub ∨ AluOp.sbc = .sbc ∨ AluOp.sbc = .cp) ∧ (stacked 0xFFFE 0 0 0x10).flagC = true := by
  decide
theorem witness_o17_logic : AluOp.or = .and ∨ AluOp.or = .xor ∨ AluOp.or = .or := by decide
theorem witness_o19_div : (bench { quiet with h := 0xFF, l := 0x04 }).pair .hl = 0xFF04 := by decide
theorem witness_o20_four_cases :
    let case (a f : Byte) (low high : Bool) : Prop :=
      let s := bench { quiet with a := a, f := f }
      decide (s.flagH = true ∨ (s.flagN = false ∧ 9 < (s.reg .a).toNat % 16)) = low ∧
      decide (s.flagC = true ∨ (s.flagN = false ∧ 0x99 < (s.reg .a).toNat)) = high
    case 0x9A 0x00 true true ∧ case 0x0A 0x00 true false ∧ case 0xA0 0x00 false true ∧ case 0x99 0x00 false false ∧
      case 0x9A 0x40 false false := by decide
/-- Raw access: both ends of the dropped ranges, no RAM, RAM behind each kind, the MBC3 selectors at both ends of the clock, the
plain regions, the special registers and those beside them. -/
theorem witness_o23_raw_ranges :
    ((0x7FFF#16).toNat < 0x8000 ∧ 0xFEA0 ≤ (0xFEA0#16).toNat ∧ (0xFEFF#16).toNat < 0xFF00) ∧
    Region.of 0xA000 = .cartRam ∧ (carted .mbc1 0x8000 0).cfg.ramSize = 0 ∧ (carted .mbc1 0x8000 0).mapper.kind ≠ .mbc2 ∧
    0 < (carted .mbc1 0x8000 0x2000).cfg.ramSize ∧ (carted .mbc2 0x8000 0).mapper.kind = .mbc2 ∧
    ([0x8000#16, 0xC000, 0xE000, 0xFE00, 0xFF80].map Region.of = [.vram, .wram, .echo, .oam, .hram]) ∧
    [0x07#8, 0x08, 0x0C, 0x0D].map (fun v => match (writes (carted .mbc3 0x8000 0x2000) [(0x4000, v)]).mapper with
      | .mbc3 m => m.ramRtcSel.toNat
      | _ => 99) = [7, 8, 12, 13] := by decide
theorem witness_o23_raw_io : (bench quiet).cfg.cgb = false ∧
    ({ bench quiet with cfg := { Config.default with cgb := true } } : State).cfg.cgb = true ∧
    [0xFF00#16, 0xFF05, 0xFF41, 0xFF68, 0xFF7F, 0xFFFF].all (fun a =>
      !decide (a ∈ [0xFF04#16, 0xFF40, 0xFF44, 0xFF46, 0xFF69, 0xFF6B])) = true ∧
    (0xFF00 ≤ (0xFF00#16).toNat ∧ (0xFF7F#16).toNat < 0xFF80) := by decide
theorem witness_o30_o31_o32_conditions :
    [Cond.nz, .z, .nc, .c].map (fun cc => condHolds cc (bench quiet)) = [true, false, true, false] ∧
    [Cond.nz, .z, .nc, .c].map (fun cc => condHolds cc (bench { quiet with f := 0x90 })) = [false, true, false, true] := by decide

/-- IME clear, an enabled source requested. -/
def waiting (c : Cpu) : State := { bench c with irq := ⟨0x10, 0x10⟩ }

theorem witness_o33_halt : (waiting quiet).cpu.ime = false ∧
    (∃ k < 5, (waiting quiet).irq.ifReg.getLsbD k = true ∧ (waiting quiet).irq.ie.getLsbD k = true) ∧
    ¬∃ k < 5, (bench quiet).irq.ifReg.getLsbD k = true ∧ (bench quiet).irq.ie.getLsbD k = true := by decide
theorem witness_o34_step :
    let s := setUp [0x06, 0x12, 0x00] { quiet with ime := true } []
    s.cpu.crashed = false ∧ s.cpu.stopped = false ∧ s.cpu.halted = false ∧ s.cpu.haltBug = false ∧
    (s.cpu.ime = false ∨ pendingBits s = 0) ∧
    decode [memRead .opcode s.cpu.pc s, memRead .operand1 (s.cpu.pc + 1) s, memRead .operand2 (s.cpu.pc + 2) s] =
      .ok (.ldBn 0x12, [0x00]) ∧
    exec (.ldBn 0x12) (s.setPc (s.cpu.pc + 2)) = .next ((s.setPc (s.cpu.pc + 2)).setReg .b 0x12) :=
  ⟨rfl, rfl, rfl, rfl, by decide, rfl, rfl⟩
theorem witness_o35_halt_bug :
    let s := setUp [0x3E, 0x14] { quiet with haltBug := true } []
    s.cpu.crashed = false ∧ s.cpu.stopped = false ∧ s.cpu.halted = false ∧ s.cpu.haltBug = true ∧
    (s.cpu.ime = false ∨ pendingBits s = 0) ∧
    decode [memRead .opcode s.cpu.pc s, memRead .operand1 s.cpu.pc s, memRead .operand2 (s.cpu.pc + 1) s] =
      .ok (.ldAn 0x3E, [0x14]) :=
  ⟨rfl, rfl, rfl, rfl, by decide, rfl⟩
theorem witness_o36_first_and_last :
    let at' (i : Source) (f e : BitVec 8) : Prop :=
      let s := { bench { quiet with ime := true } with irq := ⟨BitVec.ofNat 5 f.toNat, e⟩ }
      s.cpu.crashed = false ∧ s.cpu.stopped = false ∧ s.cpu.ime = true ∧
      (s.irq.ifReg.getLsbD i.index = true ∧ s.irq.ie.getLsbD i.index = true) ∧
      ∀ k < i.index, ¬(s.irq.ifReg.getLsbD k = true ∧ s.irq.ie.getLsbD k = true)
    at' .vblank 0x1F 0x1F ∧ at' .joypad 0x1F 0x10 := by decide
theorem witness_o37_idle :
    (bench { quiet with stopped := true }).cpu.stopped = true ∧
    (bench { quiet with halted := true }).cpu.halted = true ∧ pendingBits (bench { quiet with halted := true }) = 0 ∧
    (waiting { quiet with halted := true }).cpu.halted = true ∧ pendingBits (waiting { quiet with halted := true }) ≠ 0 ∧
    (waiting { quiet with halted := true }).cpu.ime = false := by decide
theorem witness_o38_runInstr :
    let s := setUp [0xFB] { quiet with eiPending := true } []
    s.cpu.crashed = false ∧ ∃ t, runInstr s = .next t := ⟨rfl, _, rfl⟩
theorem witness_o39_crashed : (bench { quiet with crashed := true }).cpu.crashed = true := rfl
theorem witness_o40_illegal :
    let s := setUp [0xFC] quiet []
    s.cpu.crashed = false ∧ s.cpu.stopped = false ∧ s.cpu.halted = false ∧ s.cpu.haltBug = false ∧
    (s.cpu.ime = false ∨ pendingBits s = 0) ∧
    memRead .opcode s.cpu.pc s ∈ [0xD3#8, 0xDB, 0xDD, 0xE3, 0xE4, 0xEB, 0xEC, 0xED, 0xF4, 0xFC, 0xFD] := by decide
theorem witness_o41_o56_step : ∃ t, step State.reset = .next t := ⟨_, rfl⟩
theorem witness_o41_stopped_and_crashed :
    (∃ t, step (bench { quiet with stopped := true }) = .next t) ∧ (∃ t, step (bench { quiet with crashed := true }) = .next t) ∧
    (bench quiet).bootMapped = false := ⟨⟨_, rfl⟩, ⟨_, rfl⟩, rfl⟩
/-- Also O46 and O49. -/
theorem witness_o42_storesWf : StoresWf (bench quiet) ∧ StoresWf State.reset :=
  ⟨fun k => by cases k <;> rfl, fun k => by cases k <;> rfl⟩
theorem witness_o42_regions : Region.of 0xFF80 = .hram ∧ Region.of 0xFFFE = .hram ∧ Region.of 0xFFFF ≠ .hram ∧
    Region.of 0x0000 ≠ .hram ∧ (bench quiet).dma.cyclesLeft = 0 ∧
    [1, 639, 640].all (fun n =>
      decide (0 < ({ bench quiet with dma := { (bench quiet).dma with cyclesLeft := n } } : State).dma.cyclesLeft)) = true := by
  decide
theorem witness_o43_timer : (timed 0xFE 0x80 5 15).timer.divCounter ≤ 255 ∧ (timed 0xFE 0x80 5 15).timer.tac.getLsbD 2 = true ∧
    (timed 0xFE 0x80 0 0).timer.tac.getLsbD 2 = false ∧ (15 + 17) / 16 = 256 - 0xFE ∧ 0xFE + (15 + 1) / 16 ≤ 255 := by decide
theorem witness_o44_o45_modes :
    let ok (s : State) : Prop :=
      s.ppu.lcdc.getLsbD 7 = true ∧ s.ppu.mode = modeAt s.ppu.ly s.ppu.scanCounter ∧ s.ppu.ly.toNat ≤ 153 ∧ s.ppu.scanCounter ≤ 455
    let at' (ly : Byte) (dot : Nat) (m : LcdMode) : State :=
      { bench quiet with ppu := { State.reset.ppu with ly := ly, scanCounter := dot, mode := m } }
    ok (at' 0 0 .oamScan) ∧ ok (at' 143 79 .oamScan) ∧ ok (at' 143 80 .transfer) ∧ ok (at' 0 251 .transfer) ∧
    ok (at' 143 252 .hblank) ∧ ok (at' 143 455 .hblank) ∧ ok (at' 144 0 .vblank) ∧ ok (at' 153 455 .vblank) := by decide
theorem witness_o44_o45_modeOk : ModeOk State.reset ∧ ModeOk (bench quiet) ∧ (bench quiet).ppu.lcdc.getLsbD 7 = false ∧
    ModeOk (lit 15 153 455 .hblank) := by
  unfold ModeOk; decide
/-- The start of line 144 come to from line 143 and, over the frame's end, from lines 153 and 144 (from its own start after a
whole frame); line 0 at the wrap; dots 251 and 252; a tick that comes to nothing. -/
theorem witness_o45_points :
    Passes (456 * 144 + 0) (456 * 143 + 455) 1 ∧ ¬Passes (456 * 144 + 0) (456 * 143 + 454) 1 ∧
    Passes (456 * 144 + 0) (456 * 153 + 455) (65664 + 1) ∧ Passes (456 * 144 + 0) (456 * 144 + 0) 70224 ∧
    ¬Passes (456 * 144 + 0) (456 * 144 + 0) 70223 ∧ Passes (456 * 0 + 0) (456 * 153 + 455) 1 ∧
    Passes (456 * 143 + 252) (456 * 143 + 251) 1 ∧ ¬Passes (456 * 143 + 252) (456 * 143 + 252) 203 ∧
    Passes (456 * 153 + 0) (456 * 152 + 455) 1 :=
  ⟨⟨0, by decide⟩, fun ⟨k, h⟩ => by omega, ⟨1, by decide⟩, ⟨1, by decide⟩, fun ⟨k, h⟩ => by omega, ⟨1, by decide⟩,
    ⟨0, by decide⟩, fun ⟨k, h⟩ => by omega, ⟨0, by decide⟩⟩
theorem witness_o45_inside_a_mode : (lit 15 0 79 .oamScan).ppu.statEn = 15 ∧
    (79 + 0 ≤ 455 ∧ modeAt 0 (79 + 0) = (lit 0 0 79 .oamScan).ppu.mode) := by decide
theorem witness_o46_ticks :
    (let s := lit 1 0 251 .transfer
     s.ppu.lcdc.getLsbD 7 = true ∧ s.ppu.ly.toNat ≤ 143 ∧ s.ppu.mode = .transfer ∧ 252 ≤ s.ppu.scanCounter + 1 ∧
       s.ppu.scanCounter + 204 ≤ 455) ∧
    (let s : State := { bench quiet with ppu := { State.reset.ppu with ly := 153, scanCounter := 455, mode := .vblank } }
     s.ppu.lcdc.getLsbD 7 = true ∧ s.ppu.ly = 153 ∧ 456 ≤ s.ppu.scanCounter + 1 ∧ s.ppu.scanCounter + 80 < 456 + 80) := by decide
theorem witness_o46_window :
    let s := { bench quiet with ppu := { State.reset.ppu with lcdc := 0xB1, wy := 143, wx := 166 } }
    s.ppu.lcdc.getLsbD 5 = true ∧ s.ppu.wy.toNat ≤ 143 ∧ s.ppu.wx.toNat ≤ 166 ∧ s.ppu.lcdc.getLsbD 0 = true ∧
    (bench quiet).ppu.lcdc.getLsbD 5 = false ∧ (twoSprites).ppu.lcdc.getLsbD 0 = true := by decide
/-- DMG and CGB; in the window and outside it, at both ends of WX; DMG with LCDC bit 0 clear. -/
theorem witness_o47_pixels :
    let at' (cgb : Bool) (lcdc wx : Byte) : State :=
      { bench quiet with cfg := { Config.default with cgb := cgb }, ppu := { State.reset.ppu with lcdc := lcdc, wx := wx } }
    let covered (s : State) (x : Nat) : Prop :=
      s.ppu.lcdc.getLsbD 5 = true ∧ s.ppu.wy.toNat ≤ 0 ∧ s.ppu.wx.toNat ≤ 166 ∧ s.ppu.wx.toNat ≤ x + 7
    (at' false 0xB1 166).ppu.lcdc.getLsbD 0 = true ∧ (at' true 0xB0 166).cfg.cgb = true ∧
    covered (at' false 0xB1 166) 159 ∧ ¬covered (at' false 0xB1 166) 158 ∧ covered (at' true 0xB0 0) 0 ∧
    ¬covered (at' true 0xB0 167) 159 ∧ ¬covered (at' false 0x91 0) 0 ∧
    (at' false 0x90 0).cfg.cgb = false ∧ (at' false 0x90 0).ppu.lcdc.getLsbD 0 = false := by decide
/-- A CGB tile flipped both ways in bank 1, palette 5: the low bit of column 7, row 7 (R422, R424). -/
theorem test_cgb_background_pixel :
    let s : State := { bench quiet with cfg := { Config.default with cgb := true } }
    let s := ((s.poke .vram 0x1800 0x00).poke .vram 0x3800 0x6D).poke .vram 0x200E 0x01
    let s := (s.poke .bgPalRam 42 0x1F).poke .bgPalRam 43 0x00
    (bgPixel s 0 0).cid = 1 ∧ bgColour s (bgPixel s 0 0) = ⟨255, 0, 0⟩ ∧ bgPriority s (bgPixel s 0 0) = true := by decide
theorem witness_o48_sprites : (bench quiet).ppu.lcdc.getLsbD 1 = false ∧ twoSprites.ppu.lcdc.getLsbD 1 = true ∧
    twoSprites.cfg.cgb = false ∧ (selectedSprites twoSprites 40).length = 2 ∧
    (spriteOrder twoSprites 40).map (spriteShows twoSprites 40 40 (bgPriority twoSprites (bgPixel twoSprites 40 40))) =
      [some ⟨170, 170, 170⟩, some ⟨85, 85, 85⟩] := by decide
/-- Twelve entries intersect line 40, of falling X: the first ten of OAM are chosen, the last two are not (R426). -/
theorem witness_o48_eleventh_entry :
    let s := (List.range 12).foldl (fun s i => (s.poke .oam (4 * i) 56).poke .oam (4 * i + 1) (BitVec.ofNat 8 (200 - i))) twoSprites
    (selectedSprites s 40).map (·.x.toNat) = [200, 199, 198, 197, 196, 195, 194, 193, 192, 191] ∧
    onLine s 40 (oamEntry s 10) = true ∧ onLine s 40 (oamEntry s 11) = true := by decide
/-- Columns at both ends of a sprite and beside it; rows at both ends; transparent, shown and hidden; a CGB sprite. -/
theorem witness_o48_pixel :
    let o := oamEntry twoSprites 2
    let flip : Sprite := { o with attr := 0xFF }
    (39 + 8 < o.x.toNat ∧ o.x.toNat ≤ 48 ∧ o.x.toNat ≤ 40 + 8 ∧ 47 < o.x.toNat) ∧
    (o.y.toNat ≤ 40 + 16 ∧ 40 + 16 < o.y.toNat + 8 ∧ 47 + 16 < o.y.toNat + 8) ∧
    spriteShows twoSprites 40 40 false o = some ⟨170, 170, 170⟩ ∧ spriteShows twoSprites 41 40 false o = none ∧
    spriteShows twoSprites 47 40 true flip = none ∧ spriteShows twoSprites 47 40 false flip = some ⟨85, 85, 85⟩ ∧
    ({ twoSprites with cfg := { Config.default with cgb := true } } : State).cfg.cgb = true := by decide
theorem witness_o48_behind :
    (Sprite.attr (oamEntry (twoSprites.poke .oam 11 0x80) 2)).getLsbD 7 = true := by decide
theorem witness_o49_mbc2 :
    let s := writes (carted .mbc2 0x40000 0) [(0x0000, 0x0A)]
    cellOf s 0xA000 ≠ none ∧ cellOf s 0xBFFF ≠ none ∧ s.mapper.kind = .mbc2 ∧ Region.of 0xA000 = .cartRam ∧
    s.dma.cyclesLeft = 0 ∧ locked s = false := by decide
theorem witness_o49_locked_and_echo : locked (lit 0 0 100 .transfer) = true ∧ Region.of 0x8000 = .vram ∧
    Region.of 0x9FFF = .vram ∧ Region.of 0xFE00 = .oam ∧ Region.of 0xFE9F = .oam ∧
    (0xE000 ≤ (0xE000#16).toNat ∧ (0xFDFF#16).toNat < 0xFE00) := by decide
theorem witness_o49_cells :
    (0x8000 ≤ (0x8000#16).toNat ∧ (0x9FFF#16).toNat < 0xA000 ∧ (0xCFFF#16).toNat < 0xD000 ∧ 0xD000 ≤ (0xD000#16).toNat ∧
      (0xDFFF#16).toNat < 0xE000 ∧ (0xFE9F#16).toNat < 0xFEA0 ∧ (0xFFFE#16).toNat < 0xFFFF) ∧
    (let s : State :=
      { bench quiet with cfg := { Config.default with cgb := true }, cgb := { (bench quiet).cgb with vbk := 1, svbk := 7 } }
     cellOf s 0x9FFF = some (.vram, 0x3FFF) ∧ cellOf s 0xCFFF = some (.wram, 0x0FFF) ∧ cellOf s 0xD000 = some (.wram, 0x7000)) ∧
    cellOf (bench quiet) 0xDFFF = some (.wram, 0x1FFF) ∧ cellOf (bench quiet) 0xFFFE = some (.hram, 0x7E) := by decide
theorem witness_o50_dma_closed : (timed 0 0 7 0).dma.cyclesLeft = 0 := rfl
theorem witness_o51_lcd_on_and_off : (lit 0 0 0 .oamScan).ppu.lcdc.getLsbD 7 = true ∧ (0x11#8).getLsbD 7 = false ∧
    (bench quiet).ppu.lcdc.getLsbD 7 = false ∧ (0x91#8).getLsbD 7 = true := by decide
theorem witness_o52_cgb : ({ bench quiet with cfg := { Config.default with cgb := true } } : State).cfg.cgb = true ∧
    (bench quiet).cfg.cgb = false ∧ (bench quiet).dma.cyclesLeft = 0 := by decide
theorem witness_o52_unassigned_and_overlay :
    [0xFF01#16, 0xFF03, 0xFF08, 0xFF0E, 0xFF10, 0xFF3F, 0xFF4C, 0xFF4E, 0xFF51, 0xFF67, 0xFF6C, 0xFF6F, 0xFF71, 0xFF7F].all
      (fun a => IoReg.ofAddr a == none) = true ∧ Region.of 0xFEA0 = .unusable ∧ Region.of 0xFEFF = .unusable ∧
    (let s : State := { bench quiet with bootMapped := true, cfg := { Config.default with cgb := true, bootRomSize := 0x900 } }
     s.bootMapped = true ∧ s.dma.cyclesLeft = 0 ∧ 0x100 < s.cfg.bootRomSize ∧ bootOverlay 0xFF s = true ∧
       bootOverlay 0x100 s = false ∧ bootOverlay 0x1FF s = false ∧ bootOverlay 0x200 s = true ∧ bootOverlay 0x8FF s = true ∧
       bootOverlay 0x900 s = false) := by decide
theorem witness_o53_rom : (carted .mbc1 0x8000 0).dma.cyclesLeft = 0 ∧ (carted .mbc1 0x8000 0).bootMapped = false ∧
    0 < (carted .mbc1 0x8000 0).cfg.romSize ∧ (0x3FFF#16).toNat < 0x4000 ∧ 0x4000 ≤ (0x4000#16).toNat ∧
    (0x7FFF#16).toNat < 0x8000 := by decide
/-- The gate closed; open without RAM; open over RAM for the five kinds; MBC3 selectors at both ends of each range. -/
theorem witness_o53_gate :
    let on (kind : MapperKind) (ram : Nat) : State := writes (carted kind 0x8000 ram) [(0x0000, 0x0A)]
    (carted .mbc1 0x8000 0x2000).mapper.ramEnabled 0x2000 = false ∧
    [on .mbc1 0, on .mbc5 0, on .mbc3 0, on .mbc1 0x2000, on .mbc2 0, on .mbc3 0x2000, on .mbc5 0x2000].all
      (fun s => s.mapper.ramEnabled s.cfg.ramSize && s.dma.cyclesLeft == 0) = true ∧
    (carted .none 0x8000 0x2000).mapper.ramEnabled 0x2000 = true ∧
    [0x00#8, 0x03, 0x04, 0x07, 0x08, 0x0C, 0x0D, 0x0F].map (fun v =>
      match (writes (on .mbc3 0x2000) [(0x4000, v)]).mapper with
      | .mbc3 m => m.ramRtcSel.toNat
      | _ => 99) = [0, 3, 4, 7, 8, 12, 13, 15] ∧
    Region.of 0xA000 = .cartRam ∧ Region.of 0xBFFF = .cartRam := by decide
/-- A 336-byte image with the given mapper byte. -/
def imageWith (mapper : Byte) : List Byte := List.replicate 0x147 0x00 ++ mapper :: List.replicate 8 0x00

/-- A 336-byte image without a mapper. -/
def smallImage : List Byte := List.replicate 336 0x00

/-- R120, R382: the last byte of each range names its kind, and the bytes beside the ranges create no machine. -/
theorem test_mapper_byte :
    let kind (v : Byte) : Option MapperKind :=
      match create (imageWith v) none (.default false) with
      | .ok s => some s.mapper.kind
      | .error _ => Option.none
    [0x09#8, 0x03, 0x06, 0x13, 0x1E].map kind = [some .none, some .mbc1, some .mbc2, some .mbc3, some .mbc5] ∧
    [0x04#8, 0x07, 0x0A, 0x0E, 0x14, 0x18, 0x1F, 0xFF].map kind = List.replicate 8 Option.none := by decide
/-- The spec's own profiles meet the constraints of R452, and their palette RAM lists are canonical (log entry 29). -/
theorem test_profiles_ok : ResetProfile.postBootDmg.Ok ∧ ResetProfile.postBootCgb.Ok ∧ ResetProfile.cold.Ok ∧
    Memory.wf 0xFF zeroPalette = true := by
  unfold ResetProfile.Ok; decide
theorem witness_o54_images :
    (∃ s, create smallImage (some [0x31]) { CreateOptions.default true with ramSize := 1, savedRam := some [0x5A] } = .ok s ∧
      s.peek .bootRom 0 = 0x31 ∧ s.peek .cartRam 0 = 0x5A) ∧
    (∃ e, create (imageWith 0x04) none (.default false) = .error e) := ⟨⟨_, rfl, by decide⟩, ⟨_, rfl⟩⟩

theorem witness_o54_create : (∃ s, create smallImage none (.default false) = .ok s) ∧
    (∃ s, create smallImage none (.default true) = .ok s) ∧ (∃ e, create [] none (.default false) = .error e) ∧
    (∃ s, create smallImage (some [0x00]) { CreateOptions.default false with enableBootRom := true } = .ok s) :=
  ⟨⟨_, rfl⟩, ⟨_, rfl⟩, ⟨_, rfl⟩, ⟨_, rfl⟩⟩
theorem witness_o56_inv : Inv (bench quiet) where
  fLow := by decide
  mode := by unfold ModeOk; decide
  ly := by decide
  scan := by decide
  div := by decide
  tima := by decide
  dma := by decide
  stores := witness_o42_storesWf.1
theorem witness_o57_default : State.reset.cfg.cycles = [] ∧ State.reset.cfg.idleCycles = 4 := ⟨rfl, rfl⟩
theorem witness_o58_exec : ∃ t, exec .daa State.reset = .next t := ⟨_, rfl⟩
theorem witness_o59_press : (∃ k < 8, (0x80#8).getLsbD k = true ∧ (bench quiet).joypad.keys.getLsbD k = false) ∧
    ¬∃ k < 8, (0x00#8).getLsbD k = true ∧ (bench quiet).joypad.keys.getLsbD k = false := by decide
theorem witness_o60_cyclesOk : State.reset.cfg.CyclesOk ∧ State.reset.cpu.crashed = false ∧
    ∃ r, coreStep State.reset = .next r :=
  ⟨⟨⟨by decide, by decide⟩, fun _ h => nomatch h⟩, rfl, _, rfl⟩

end Sys2Proof.Tests
end

/-! ## The fixed parts of the machine (O41): what no instruction and no device changes in a step -/

namespace Sys2Proof.Machine

/-- From `s` to `t` the parameters, the images, the mapper's kind and the key latch stay, and the boot ROM is not mapped
(R14, R47, R83, R108, R388, R454). -/
structure FixedPartsKept (s t : State) : Prop where
  cfg : t.cfg = s.cfg
  rom : t.mem.rom = s.mem.rom
  bootRom : t.mem.bootRom = s.mem.bootRom
  kind : t.mapper.kind = s.mapper.kind
  keys : t.joypad.keys = s.joypad.keys
  boot : s.bootMapped = false → t.bootMapped = false

theorem FixedPartsKept.refl (s : State) : FixedPartsKept s s := ⟨rfl, rfl, rfl, rfl, rfl, id⟩

theorem FixedPartsKept.trans {a b c : State} (h : FixedPartsKept a b) (g : FixedPartsKept b c) : FixedPartsKept a c :=
  ⟨g.cfg.trans h.cfg, g.rom.trans h.rom, g.bootRom.trans h.bootRom, g.kind.trans h.kind, g.keys.trans h.keys,
    fun hb => g.boot (h.boot hb)⟩

/-- No write trap reaches a fixed part. -/
theorem fixedPartsKept_memWrite (a : Word) (v : Byte) (s : State) : FixedPartsKept s (memWrite a v s) where
  cfg := memWrite_cfg a v s
  rom := memWrite_mem a v s .rom rfl
  bootRom := memWrite_mem a v s .bootRom rfl
  kind := memWrite_kind a v s
  keys := memWrite_keys a v s
  boot := memWrite_bootMapped a v s

/-- What no device touches includes every fixed part. -/
theorem DeviceFrame.fixedPartsKept {s t : State} (h : DeviceFrame s t) : FixedPartsKept s t where
  cfg := h.cfg
  rom := h.mem .rom (by decide)
  bootRom := h.mem .bootRom (by decide)
  kind := congrArg Mapper.kind h.mapper
  keys := congrArg Joypad.keys h.joypad
  boot := h.bootMapped.trans

/-- Bus writes and device ticks keep the fixed parts, and the CPU, IF and the free moments are none of them. -/
theorem fixedPartsKept_step (s t : State) (h : step s = .next t) : FixedPartsKept s t :=
  step_keeps (FixedPartsKept s)
    (cpu := fun _ _ _ hu => { hu with })
    (write := fun u a v hu => hu.trans (fixedPartsKept_memWrite a v u))
    (irq := fun _ _ hu => { hu with })
    (free := fun _ _ hu => { hu with })
    (ticks := fun n u hu => hu.trans (deviceFrame_tick n u).fixedPartsKept)
    s t (.refl s) h

/-- A crashed machine's step does nothing (R381). -/
theorem step_of_crashed (s : State) (h : s.cpu.crashed = true) : step s = .next s := by
  simp [step, coreStep, h]

/-- A stopped machine's step is the idle bill alone (R388). -/
theorem step_of_stopped (s : State) (hc : s.cpu.crashed = false) (h : s.cpu.stopped = true) :
    step s = .next (endStep s.cfg.idleCycles s) := by
  simp [step, coreStep, hc, h]

/-- A step of a machine that is crashed or stopped leaves the CPU as it was: it fetches nothing. -/
theorem step_cpu_of_crashed_or_stopped (s t : State) (hs : step s = .next t)
    (h : s.cpu.crashed = true ∨ s.cpu.stopped = true) : t.cpu = s.cpu := by
  by_cases hc : s.cpu.crashed = true
  · rw [step_of_crashed s hc] at hs
    cases hs
    rfl
  · rw [step_of_stopped s (by simpa using hc) (h.resolve_left hc)] at hs
    cases hs
    exact endStep_cpu _ _

/-- Settles O41: every part of a step keeps the fixed parts, and a stopped or crashed CPU runs nothing. -/
theorem stepKeepsFixedParts : Obligations.StepKeepsFixedParts := by
  intro s t hs
  have fixed := fixedPartsKept_step s t hs
  have cpu := step_cpu_of_crashed_or_stopped s t hs
  refine ⟨fixed.cfg, fixed.rom, fixed.bootRom, fixed.kind, fixed.keys, fixed.boot, fun h => ?_, fun h => ?_⟩
  · rw [cpu (.inr h)]
    exact h
  · rw [cpu (.inl h)]
    exact h

end Sys2Proof.Machine

/-! ## The machine after reset and after create (O54, O55) -/

namespace Sys2Proof.Machine

/-- A profile that meets the constraints of R452 leaves a machine that meets the invariant; the counters start at 0. -/
theorem inv_ofProfile (cfg : Config) (kind : MapperKind) (boot : Bool) (img : Images) (p : ResetProfile) (h : p.Ok)
    (hs : StoresWf (.ofProfile cfg kind boot img p)) : Inv (.ofProfile cfg kind boot img p) := by
  obtain ⟨hf, hly, hscan, hmode⟩ := h
  exact { fLow := hf, mode := hmode, ly := hly, scan := hscan, stores := hs
          div := Nat.zero_le _, tima := Nat.zero_le _, dma := Nat.zero_le _ }

/-- The DMG column of R48: line 0 begins, so mode 2. -/
theorem postBootDmg_ok : ResetProfile.postBootDmg.Ok :=
  ⟨rfl, by decide, by decide, rfl⟩

/-- After reset no store lists a byte. -/
theorem storesWf_reset : StoresWf State.reset := by
  intro k
  cases k <;> rfl

/-- Settles O55: the reset machine is the one of the DMG profile, which meets the constraints of R452. -/
theorem resetMeetsInvariant : Obligations.ResetMeetsInvariant :=
  inv_ofProfile .default .none false ⟨[], [], []⟩ .postBootDmg postBootDmg_ok storesWf_reset

/-- The table of R120: the header bytes of each mapper kind. -/
def headerKinds : List (MapperKind × List Byte) :=
  [(.none, [0x00#8, 0x08#8, 0x09#8]), (.mbc1, [0x01#8, 0x02#8, 0x03#8]), (.mbc2, [0x05#8, 0x06#8]),
    (.mbc3, [0x0F#8, 0x10#8, 0x11#8, 0x12#8, 0x13#8]), (.mbc5, [0x19#8, 0x1A#8, 0x1B#8, 0x1C#8, 0x1D#8, 0x1E#8])]

/-- The header byte is looked up in the table of R120, row by row. -/
theorem ofHeader_eq_find? (v : Byte) :
    MapperKind.ofHeader v = (headerKinds.find? fun row => decide (v ∈ row.2)).map Prod.fst := by
  unfold MapperKind.ofHeader headerKinds
  repeat' split
  all_goals simp only [List.find?_cons, List.find?_nil, decide_true, decide_false, Option.map_some, Option.map_none, *]

theorem ofHeader_eq_none_iff (v : Byte) : MapperKind.ofHeader v = none ↔ ¬∃ row ∈ headerKinds, v ∈ row.2 := by
  simp [ofHeader_eq_find?]

theorem exists_row_of_ofHeader (v : Byte) (kind : MapperKind) (h : MapperKind.ofHeader v = some kind) :
    ∃ row ∈ headerKinds, v ∈ row.2 ∧ kind = row.1 := by
  rw [ofHeader_eq_find?] at h
  obtain ⟨row, hrow, rfl⟩ := Option.map_eq_some_iff.1 h
  exact ⟨row, List.mem_of_find?_eq_some hrow, by simpa using List.find?_some hrow, rfl⟩

/-- The machine `create` makes once the header has named a mapper kind (R450). -/
def createdState (cart : List Byte) (boot : Option (List Byte)) (o : CreateOptions) (kind : MapperKind) : State :=
  .ofProfile (o.config cart.length (boot.getD []).length) kind (o.enableBootRom && boot.isSome)
    { rom := .ofBytes 0x00 0 cart, bootRom := .ofBytes 0x00 0 (boot.getD [])
      cartRam := .ofBytes 0x00 0 (o.savedRam.getD []) }
    (if o.enableBootRom && boot.isSome then .cold else o.profile)

/-- No mapper kind, no machine (R382). -/
theorem create_error_iff (cart : List Byte) (boot : Option (List Byte)) (o : CreateOptions) :
    (∃ e, create cart boot o = .error e) ↔ ∀ v, cart[0x147]? = some v → MapperKind.ofHeader v = none := by
  unfold create
  split
  case h_1 h => exact ⟨fun _ => Option.bind_eq_none_iff.1 h, fun _ => ⟨_, rfl⟩⟩
  case h_2 kind h =>
    obtain ⟨v, hv, hk⟩ := Option.bind_eq_some_iff.1 h
    simp [hv, hk]

/-- A machine that `create` answers is `createdState` for the kind its header names. -/
theorem create_ok (cart : List Byte) (boot : Option (List Byte)) (o : CreateOptions) (s : State)
    (h : create cart boot o = .ok s) :
    ∃ v kind, cart[0x147]? = some v ∧ MapperKind.ofHeader v = some kind ∧ s = createdState cart boot o kind := by
  unfold create at h
  split at h
  case h_1 => cases h
  case h_2 kind hk =>
    obtain ⟨v, hv, hk⟩ := Option.bind_eq_some_iff.1 hk
    exact ⟨v, kind, hv, hk, (Except.ok.inj h).symm⟩

/-- A store built from bytes gives back each of them. -/
theorem read_ofBytes_of_getElem? (blank : Byte) (l : List Byte) (i : Nat) (v : Byte) (h : l[i]? = some v) :
    (Memory.ofBytes blank 0 l).read blank i = v := by
  simp [Memory.read_ofBytes, h]

@[simp] theorem Mapper.kind_reset (kind : MapperKind) : (Mapper.reset kind).kind = kind := by
  cases kind <;> rfl

/-- The cold palette RAM is 64 bytes of 0x00 (R453). -/
theorem read_zeroPalette (i : Nat) (h : i < 64) : Memory.read 0xFF zeroPalette i = 0x00 := by
  refine read_ofBytes_of_getElem? _ _ _ _ ?_
  rw [List.getElem?_replicate, if_pos h]

/-- What a created machine takes from its arguments, whatever the options (R120, R450). -/
theorem created_parts (cart : List Byte) (boot : Option (List Byte)) (o : CreateOptions) (s : State)
    (h : create cart boot o = .ok s) :
    (∃ v, cart[0x147]? = some v ∧ ∃ row ∈ headerKinds, v ∈ row.2 ∧ s.mapper.kind = row.1) ∧ s.mapper = .reset s.mapper.kind ∧
    (∀ i v, cart[i]? = some v → s.peek .rom i = v) ∧
    (∀ bytes i v, boot = some bytes → bytes[i]? = some v → s.peek .bootRom i = v) ∧
    (∀ bytes i v, o.savedRam = some bytes → bytes[i]? = some v → s.peek .cartRam i = v) ∧
    (o.savedRam = none → ∀ i, s.peek .cartRam i = 0x00) ∧
    s.bootMapped = (o.enableBootRom && boot.isSome) ∧ s.cfg = o.config cart.length (boot.getD []).length := by
  obtain ⟨v, kind, hv, hk, rfl⟩ := create_ok cart boot o s h
  have hkind : (createdState cart boot o kind).mapper.kind = kind := Mapper.kind_reset kind
  refine ⟨⟨v, hv, ?_⟩, ?_, fun i w hw => ?_, fun bytes i w hb hw => ?_, fun bytes i w hb hw => ?_, fun hb i => ?_, rfl, rfl⟩
  · rw [hkind]
    exact exists_row_of_ofHeader v kind hk
  · rw [hkind]
    rfl
  · exact read_ofBytes_of_getElem? _ cart i w hw
  · subst hb
    exact read_ofBytes_of_getElem? _ bytes i w hw
  · refine read_ofBytes_of_getElem? _ (o.savedRam.getD []) i w ?_
    rw [hb]
    exact hw
  · change (Memory.ofBytes 0x00 0 (o.savedRam.getD [])).read 0x00 i = 0x00
    rw [hb]
    rfl

/-- Settles O54: the header decides the kind, `createdState` holds the images and parameters, and every other element is the
profile's, by computation. -/
theorem createdMachine : Obligations.CreatedMachine := by
  refine ⟨⟨fun cart boot o => ?_, created_parts⟩, ⟨rfl, rfl, rfl, rfl, rfl⟩, fun cart boot cgb s h => ?_,
    fun cart bytes o s h => ?_, rfl⟩
  · rw [create_error_iff]
    simp only [ofHeader_eq_none_iff, not_exists, not_and]
    rfl
  · obtain ⟨v, kind, -, -, rfl⟩ := create_ok _ _ _ _ h
    cases cgb <;> exact
      ⟨rfl, rfl, rfl, rfl, rfl, rfl, rfl, rfl, rfl, rfl, rfl, rfl, rfl, rfl, rfl, rfl, rfl, rfl, rfl, rfl, rfl, rfl, rfl, rfl,
        rfl, rfl, rfl, rfl, rfl, rfl, rfl, rfl, rfl, rfl, rfl, rfl,
        fun _ => ⟨rfl, rfl, rfl, rfl, rfl⟩, fun _ => ⟨rfl, fun _ => ⟨rfl, rfl⟩⟩⟩
  · obtain ⟨v, kind, -, -, rfl⟩ := create_ok _ _ _ _ h
    refine ⟨rfl, rfl, fun r => ?_, rfl, rfl, rfl, rfl, rfl, fun i hi => ⟨?_, ?_⟩⟩
    · cases r <;> rfl
    · exact read_zeroPalette i hi
    · exact read_zeroPalette i hi

end Sys2Proof.Machine

/-! ## The I/O ports (O52): an address names its register, and a bus access of that address is the register's trap -/

namespace Sys2Proof.Machine

theorem region_unusable {a : Word} (h1 : 0xFEA0 ≤ a.toNat) (h2 : a.toNat < 0xFF00) : Region.of a = .unusable := by
  simp [Region.of, h2, show ¬a.toNat < 0x4000 by omega, show ¬a.toNat < 0x8000 by omega, show ¬a.toNat < 0xA000 by omega,
    show ¬a.toNat < 0xC000 by omega, show ¬a.toNat < 0xE000 by omega, show ¬a.toNat < 0xFE00 by omega,
    show ¬a.toNat < 0xFEA0 by omega]

theorem region_io {a : Word} (h1 : 0xFF00 ≤ a.toNat) (h2 : a.toNat < 0xFF80) : Region.of a = .io := by
  simp [Region.of, h2, show ¬a.toNat < 0x4000 by omega, show ¬a.toNat < 0x8000 by omega, show ¬a.toNat < 0xA000 by omega,
    show ¬a.toNat < 0xC000 by omega, show ¬a.toNat < 0xE000 by omega, show ¬a.toNat < 0xFE00 by omega,
    show ¬a.toNat < 0xFEA0 by omega, show ¬a.toNat < 0xFF00 by omega]

/-- A write of an I/O register is its write trap (R95). -/
theorem memWrite_ioReg (r : IoReg) (a : Word) (hg : Region.of a = .io) (ha : IoReg.ofAddr a = some r) (v : Byte) (s : State) :
    memWrite a v s = ioWrite r v s := by
  simp only [memWrite, hg, ha]

/-- A read of an I/O register is its read trap, the DMA window being closed (R72, R95). -/
theorem memRead_ioReg (r : IoReg) (a : Word) (hg : Region.of a = .io) (ha : IoReg.ofAddr a = some r) (port : ReadPort)
    (s : State) (hd : s.dma.cyclesLeft = 0) : memRead port a s = ioRead r s := by
  rw [memRead_closed_window s port a hd]
  simp only [dispatchRead, hg, ha]

/-- On DMG a CGB port ignores writes and reads 0xFF, whether the DMA window is open or closed (R72, R104). -/
theorem dmg_cgbPort (r : IoReg) (a : Word) (hg : Region.of a = .io) (ha : IoReg.ofAddr a = some r) (hr : r.cgbOnly = true)
    (v : Byte) (port : ReadPort) (s : State) (hc : s.cfg.cgb = false) : memWrite a v s = s ∧ memRead port a s = 0xFF := by
  constructor
  · rw [memWrite_ioReg r a hg ha]
    simp [ioWrite, hr, hc]
  · by_cases hd : s.dma.cyclesLeft = 0
    · rw [memRead_ioReg r a hg ha port s hd]
      simp [ioRead, hr, hc]
    · simp [memRead, Nat.pos_of_ne_zero hd, hg]

/-- Where no register stands, an I/O address is neither written nor bound to a byte (R102, R103, R104). -/
theorem unassigned_port (a : Word) (hg : Region.of a = .io) (ha : IoReg.ofAddr a = none) (v : Byte) (port : ReadPort)
    (s : State) :
    memWrite a v s = s ∧ (s.dma.cyclesLeft = 0 → memRead port a s = Config.freeByte s.freeCount port a) := by
  refine ⟨by simp only [memWrite, hg, ha], fun hd => ?_⟩
  rw [memRead_closed_window s port a hd]
  simp only [dispatchRead, hg, ha]

/-- The unusable range is neither written nor bound to a byte (R89). -/
theorem unusable_port (a : Word) (hg : Region.of a = .unusable) (v : Byte) (port : ReadPort) (s : State) :
    memWrite a v s = s ∧ (s.dma.cyclesLeft = 0 → memRead port a s = Config.freeByte s.freeCount port a) := by
  refine ⟨by simp only [memWrite, hg], fun hd => ?_⟩
  rw [memRead_closed_window s port a hd]
  simp only [dispatchRead, hg]

/-- The ranges of the I/O page in which no register stands. -/
theorem ofAddr_eq_none (a : Word)
    (h :
      let n := a.toNat
      (0xFF01 ≤ n ∧ n ≤ 0xFF03) ∨ (0xFF08 ≤ n ∧ n ≤ 0xFF0E) ∨ (0xFF10 ≤ n ∧ n ≤ 0xFF3F) ∨ (0xFF4C ≤ n ∧ n ≤ 0xFF4E) ∨
      (0xFF51 ≤ n ∧ n ≤ 0xFF67) ∨ (0xFF6C ≤ n ∧ n ≤ 0xFF6F) ∨ (0xFF71 ≤ n ∧ n ≤ 0xFF7F)) : IoReg.ofAddr a = none := by
  unfold IoReg.ofAddr
  split
  case h_26 => rfl
  all_goals omega

/-- The low `w` bits of a byte, as a slice and as a number taken modulo `2 ^ w`. -/
theorem extractLsb'_zero_eq_ofNat (v : Byte) (w : Nat) : v.extractLsb' 0 w = BitVec.ofNat w v.toNat := by
  apply BitVec.eq_of_toNat_eq
  simp

/-- Bits 5:4 of a byte, as a slice and by division. -/
theorem extractLsb'_four_eq_ofNat (v : Byte) : v.extractLsb' 4 2 = BitVec.ofNat 2 (v.toNat / 16) := by
  apply BitVec.eq_of_toNat_eq
  simp [Nat.shiftRight_eq_div_pow]

theorem palIndex_ofByte (v : Byte) : PalIndex.ofByte v = ⟨v.getLsbD 7, BitVec.ofNat 6 v.toNat⟩ := by
  rw [PalIndex.ofByte, extractLsb'_zero_eq_ofNat]

theorem palIndex_advance (p : PalIndex) : p.advance = ⟨p.auto, BitVec.ofNat 6 (p.index.toNat + p.auto.toNat)⟩ := by
  obtain ⟨auto, index⟩ := p
  cases auto <;> simp [PalIndex.advance, BitVec.ofNat_add]

/-- Joined bit vectors as numbers, with `+` in place of the library's `|||`. -/
theorem toNat_append_add {w u : Nat} (x : BitVec w) (y : BitVec u) : (x ++ y).toNat = x.toNat * 2 ^ u + y.toNat := by
  rw [BitVec.toNat_append, ← Nat.shiftLeft_add_eq_or_of_lt y.isLt, Nat.shiftLeft_eq]

/-- A register of `u` bits below fixed ones reads as their sum. -/
theorem append_eq_opByte {w u : Nat} (hw : w + u = 8) (x : BitVec w) (y : BitVec u) (n : Nat) (hn : n = x.toNat * 2 ^ u) :
    (x ++ y).cast hw = opByte (n + y.toNat) := by
  apply BitVec.eq_of_toNat_eq
  rw [BitVec.toNat_cast, opByte, BitVec.toNat_ofNat, hn, ← toNat_append_add, ← hw, Nat.mod_eq_of_lt (x ++ y).isLt]

theorem palIndex_byte (p : PalIndex) : p.byte = opByte (0x40 + 128 * p.auto.toNat + p.index.toNat) := by
  refine append_eq_opByte rfl (BitVec.ofBool p.auto ++ 1#1) p.index _ ?_
  rw [toNat_append_add, BitVec.toNat_ofBool]
  simp
  omega

/-- JOYP's low nibble on numbers: the selected groups' keys, active low (R100). -/
theorem joypNibble_toNat (j : Joypad) :
    let low (dirKey button : Nat) : Bool :=
      !((!j.sel.getLsbD 0 && j.keys.getLsbD dirKey) || (!j.sel.getLsbD 1 && j.keys.getLsbD button))
    (joypNibble j).toNat = 8 * (low 3 7).toNat + 4 * (low 0 6).toNat + 2 * (low 2 5).toNat + (low 1 4).toNat := by
  simp only [joypNibble, toNat_append_add, BitVec.toNat_ofBool]
  omega

theorem joyp_byte_toNat (j : Joypad) :
    (3#2 ++ j.sel ++ joypNibble j).toNat = 0xC0 + 16 * j.sel.toNat + (joypNibble j).toNat := by
  rw [toNat_append_add, toNat_append_add]
  simp
  omega

theorem wramBank_cgb (s : State) (hc : s.cfg.cgb = true) :
    wramBank s = if s.cgb.svbk.toNat = 0 then 1 else s.cgb.svbk.toNat := by
  rw [wramBank, if_pos hc]
  split <;> omega

/-- The CGB ports as a CGB program writes them (R41, R104, R106, R107). -/
theorem cgb_writes (s : State) (v : Byte) (hc : s.cfg.cgb = true) :
    memWrite 0xFF4F v s = { s with cgb := { s.cgb with vbk := BitVec.ofNat 1 v.toNat } } ∧
    memWrite 0xFF70 v s = { s with cgb := { s.cgb with svbk := BitVec.ofNat 3 v.toNat } } ∧
    memWrite 0xFF68 v s = { s with cgb := { s.cgb with bcps := ⟨v.getLsbD 7, BitVec.ofNat 6 v.toNat⟩ } } ∧
    memWrite 0xFF6A v s = { s with cgb := { s.cgb with ocps := ⟨v.getLsbD 7, BitVec.ofNat 6 v.toNat⟩ } } ∧
    memWrite 0xFF69 v s = { s.poke .bgPalRam s.cgb.bcps.index.toNat v with
      cgb := { s.cgb with bcps := s.cgb.bcps.advance } } ∧
    memWrite 0xFF6B v s = { s.poke .objPalRam s.cgb.ocps.index.toNat v with
      cgb := { s.cgb with ocps := s.cgb.ocps.advance } } := by
  rw [memWrite_ioReg .vbk 0xFF4F rfl rfl, memWrite_ioReg .svbk 0xFF70 rfl rfl, memWrite_ioReg .bcps 0xFF68 rfl rfl,
    memWrite_ioReg .ocps 0xFF6A rfl rfl, memWrite_ioReg .bcpd 0xFF69 rfl rfl, memWrite_ioReg .ocpd 0xFF6B rfl rfl]
  simp [ioWrite, hc, palIndex_ofByte, extractLsb'_zero_eq_ofNat]

/-- The CGB ports as a CGB program reads them (R41, R104, R106, R107). -/
theorem cgb_reads (s : State) (port : ReadPort) (hc : s.cfg.cgb = true) (hd : s.dma.cyclesLeft = 0) :
    memRead port 0xFF4F s = opByte (0xFE + s.cgb.vbk.toNat) ∧ memRead port 0xFF70 s = opByte (0xF8 + s.cgb.svbk.toNat) ∧
    memRead port 0xFF68 s = opByte (0x40 + 128 * s.cgb.bcps.auto.toNat + s.cgb.bcps.index.toNat) ∧
    memRead port 0xFF6A s = opByte (0x40 + 128 * s.cgb.ocps.auto.toNat + s.cgb.ocps.index.toNat) ∧
    memRead port 0xFF69 s = s.peek .bgPalRam s.cgb.bcps.index.toNat ∧
    memRead port 0xFF6B s = s.peek .objPalRam s.cgb.ocps.index.toNat := by
  rw [memRead_ioReg .vbk 0xFF4F rfl rfl port s hd, memRead_ioReg .svbk 0xFF70 rfl rfl port s hd,
    memRead_ioReg .bcps 0xFF68 rfl rfl port s hd, memRead_ioReg .ocps 0xFF6A rfl rfl port s hd,
    memRead_ioReg .bcpd 0xFF69 rfl rfl port s hd, memRead_ioReg .ocpd 0xFF6B rfl rfl port s hd]
  simp only [ioRead, hc, Bool.not_true, Bool.and_false, Bool.false_eq_true, if_false]
  exact ⟨append_eq_opByte rfl 0x7F#7 s.cgb.vbk 0xFE rfl, append_eq_opByte rfl 0x1F#5 s.cgb.svbk 0xF8 rfl,
    palIndex_byte _, palIndex_byte _, trivial, trivial⟩

/-- The overlay of R131, as a proposition, while the boot ROM is mapped. -/
theorem bootOverlay_iff (n : Nat) (s : State) (hb : s.bootMapped = true) :
    bootOverlay n s = true ↔ n < 0x100 ∨ (s.cfg.cgb = true ∧ 0x100 < s.cfg.bootRomSize ∧ 0x200 ≤ n ∧ n < 0x900) := by
  simp [bootOverlay, hb, and_assoc]

/-- Below 0x4000 a read gives the boot ROM where it overlays, else the image (R81, R131). -/
theorem memRead_rom0 (a : Word) (ha : a.toNat < 0x4000) (port : ReadPort) (s : State) (hd : s.dma.cyclesLeft = 0) :
    memRead port a s =
      if bootOverlay a.toNat s then s.peek .bootRom a.toNat else s.peek .rom (a.toNat % s.cfg.romSize) := by
  rw [memRead_closed_window s port a hd]
  simp only [dispatchRead, region_rom0 ha, romOffset0]

/-- Settles O52: an I/O address names its register's traps or, where none stands, the free byte; below 0x4000 the overlay
decides. -/
theorem joypadBootAndCgbPorts : Obligations.JoypadBootAndCgbPorts := by
  refine ⟨fun s v => ?joypWrite, fun s port hd => ?joypRead, fun s v port => ⟨fun hv => ?bootOff, ?bootKept, fun hd => ?bootRead⟩,
    fun s v port hc => ?cgb, fun s v port a hc ha => ?dmg, fun s v port a ha => ?free,
    fun s v port a hb ha => ⟨?control, fun hd ho => ?overlay, fun hd ho => ?image⟩⟩
  case joypWrite =>
    rw [memWrite_ioReg .joyp 0xFF00 rfl rfl, ← extractLsb'_four_eq_ofNat]
    rfl
  case joypRead =>
    rw [memRead_ioReg .joyp 0xFF00 rfl rfl port s hd]
    refine (joyp_byte_toNat s.joypad).trans ?_
    rw [joypNibble_toNat]
    dsimp only
    omega
  case bootOff =>
    rw [memWrite_ioReg .bootOff 0xFF50 rfl rfl]
    exact if_neg hv
  case bootKept =>
    rw [memWrite_ioReg .bootOff 0xFF50 rfl rfl]
    rfl
  case bootRead =>
    rw [memRead_ioReg .bootOff 0xFF50 rfl rfl port s hd]
    rfl
  case cgb =>
    obtain ⟨vbk, svbk, bcps, ocps, bcpd, ocpd⟩ := cgb_writes s v hc
    rw [palIndex_advance] at bcpd ocpd
    exact ⟨vbk, svbk, wramBank_cgb s hc, bcps, ocps, bcpd, ocpd, cgb_reads s port hc⟩
  case dmg =>
    simp only [List.mem_cons, List.not_mem_nil, or_false] at ha
    obtain rfl | rfl | rfl | rfl | rfl | rfl := ha
    · exact dmg_cgbPort .vbk _ rfl rfl rfl v port s hc
    · exact dmg_cgbPort .bcps _ rfl rfl rfl v port s hc
    · exact dmg_cgbPort .bcpd _ rfl rfl rfl v port s hc
    · exact dmg_cgbPort .ocps _ rfl rfl rfl v port s hc
    · exact dmg_cgbPort .ocpd _ rfl rfl rfl v port s hc
    · exact dmg_cgbPort .svbk _ rfl rfl rfl v port s hc
  case free =>
    obtain ⟨h1, h2⟩ | ha := ha
    · exact unusable_port a (region_unusable h1 (by omega)) v port s
    · exact unassigned_port a (region_io (by omega) (by omega)) (ofAddr_eq_none a ha) v port s
  case control => simp only [memWrite, region_rom0 ha]
  case overlay => rw [memRead_rom0 a ha port s hd, if_pos ((bootOverlay_iff _ s hb).2 ho)]
  case image => rw [memRead_rom0 a ha port s hd, if_neg fun h => ho ((bootOverlay_iff _ s hb).1 h)]

end Sys2Proof.Machine

/-! ## The timer, IF and LCD ports (O50, O51): each access is its register's trap -/

namespace Sys2Proof.Machine

/-- Settles O50: the traps of R96 and R97; TAC and IF stand below bits that read 1. -/
theorem timerAndIfPorts : Obligations.TimerAndIfPorts := by
  refine ⟨fun s port hd => ?reads, fun s v => ?writes⟩
  case reads =>
    rw [memRead_ioReg .div 0xFF04 rfl rfl port s hd, memRead_ioReg .tima 0xFF05 rfl rfl port s hd,
      memRead_ioReg .tma 0xFF06 rfl rfl port s hd, memRead_ioReg .tac 0xFF07 rfl rfl port s hd,
      memRead_ioReg .ifReg 0xFF0F rfl rfl port s hd]
    exact ⟨rfl, rfl, rfl, append_eq_opByte rfl 0x1F#5 s.timer.tac 0xF8 rfl, append_eq_opByte rfl 7#3 s.irq.ifReg 0xE0 rfl⟩
  case writes =>
    rw [memWrite_ioReg .div 0xFF04 rfl rfl, memWrite_ioReg .tima 0xFF05 rfl rfl, memWrite_ioReg .tma 0xFF06 rfl rfl,
      memWrite_ioReg .tac 0xFF07 rfl rfl, memWrite_ioReg .ifReg 0xFF0F rfl rfl, ← extractLsb'_zero_eq_ofNat v 3,
      ← extractLsb'_zero_eq_ofNat v 5]
    exact ⟨rfl, rfl, rfl, rfl, rfl⟩

/-- STAT as a number: bit 7 is 1, then the enables, LY=LYC and the mode (R38, R99). -/
theorem statByte_toNat (p : Ppu) :
    (statByte p).toNat = 0x80 + 8 * p.statEn.toNat + (if p.ly = p.lyc then 4 else 0) + p.mode.code.toNat := by
  rw [statByte, toNat_append_add, toNat_append_add, toNat_append_add, BitVec.toNat_ofBool]
  by_cases h : p.ly = p.lyc
  · simp [h]
    omega
  · simp [h, beq_false_of_ne h]
    omega

/-- Bits 6:3 of a byte, as a slice and by division. -/
theorem extractLsb'_three_eq_ofNat (v : Byte) : v.extractLsb' 3 4 = BitVec.ofNat 4 (v.toNat / 8) := by
  apply BitVec.eq_of_toNat_eq
  simp [Nat.shiftRight_eq_div_pow]

/-- Switching the LCD off (R98). -/
theorem writeLcdc_off (v : Byte) (s : State) (hs : s.ppu.lcdc.getLsbD 7 = true) (hv : v.getLsbD 7 = false) :
    writeLcdc v s =
      { s with ppu := { s.ppu with lcdc := v, ly := 0, scanCounter := 0, mode := .hblank, windowLine := 0 } } := by
  simp only [writeLcdc, hs, hv, Bool.not_false, Bool.and_self, if_true]

/-- Switching the LCD on (R98). -/
theorem writeLcdc_on (v : Byte) (s : State) (hs : s.ppu.lcdc.getLsbD 7 = false) (hv : v.getLsbD 7 = true) :
    writeLcdc v s =
      { s with ppu := { s.ppu with lcdc := v, ly := 0, scanCounter := 0, mode := .oamScan, windowLine := 0 } } := by
  simp only [writeLcdc, hs, hv, Bool.not_false, Bool.not_true, Bool.and_self, Bool.false_eq_true, if_false, if_true]

/-- An LCDC write that keeps bit 7 only stores (R98). -/
theorem writeLcdc_kept (v : Byte) (s : State) (h : s.ppu.lcdc.getLsbD 7 = v.getLsbD 7) :
    writeLcdc v s = { s with ppu := { s.ppu with lcdc := v } } := by
  simp only [writeLcdc, h, Bool.and_not_self, Bool.not_and_self, Bool.false_eq_true, if_false]

/-- Settles O51: the LCDC trap by bit 7 before and after; every other PPU register is plain or read through `statByte`. -/
theorem lcdPorts : Obligations.LcdPorts := by
  refine ⟨fun s v => ?writes, fun s port hd => ?reads⟩
  case writes =>
    rw [memWrite_ioReg .lcdc 0xFF40 rfl rfl, memWrite_ioReg .stat 0xFF41 rfl rfl, memWrite_ioReg .scy 0xFF42 rfl rfl,
      memWrite_ioReg .scx 0xFF43 rfl rfl, memWrite_ioReg .ly 0xFF44 rfl rfl, memWrite_ioReg .lyc 0xFF45 rfl rfl,
      memWrite_ioReg .bgp 0xFF47 rfl rfl, memWrite_ioReg .obp0 0xFF48 rfl rfl, memWrite_ioReg .obp1 0xFF49 rfl rfl,
      memWrite_ioReg .wy 0xFF4A rfl rfl, memWrite_ioReg .wx 0xFF4B rfl rfl, ← extractLsb'_three_eq_ofNat]
    exact ⟨writeLcdc_off v s, writeLcdc_on v s, writeLcdc_kept v s, rfl, rfl, rfl, rfl, rfl, rfl, rfl, rfl, rfl, rfl⟩
  case reads =>
    rw [memRead_ioReg .lcdc 0xFF40 rfl rfl port s hd, memRead_ioReg .stat 0xFF41 rfl rfl port s hd,
      memRead_ioReg .scy 0xFF42 rfl rfl port s hd, memRead_ioReg .scx 0xFF43 rfl rfl port s hd,
      memRead_ioReg .ly 0xFF44 rfl rfl port s hd, memRead_ioReg .lyc 0xFF45 rfl rfl port s hd,
      memRead_ioReg .bgp 0xFF47 rfl rfl port s hd, memRead_ioReg .obp0 0xFF48 rfl rfl port s hd,
      memRead_ioReg .obp1 0xFF49 rfl rfl port s hd, memRead_ioReg .wy 0xFF4A rfl rfl port s hd,
      memRead_ioReg .wx 0xFF4B rfl rfl port s hd]
    exact ⟨rfl, statByte_toNat s.ppu, rfl, rfl, rfl, rfl, rfl, rfl, rfl, rfl, rfl⟩

end Sys2Proof.Machine

/-! ## Cartridge RAM behind its gate: what an access of a place does (R85, R122 to R128) -/

namespace Sys2Proof.Machine

/-- A read of cartridge RAM, the DMA window being closed (R72, R85). -/
theorem memRead_cartRam (s : State) (a : Word) (port : ReadPort) (hg : Region.of a = .cartRam) (hd : s.dma.cyclesLeft = 0) :
    memRead port a s = cartRead a.toNat s := by
  rw [memRead_closed_window s port a hd]
  simp only [dispatchRead, hg]

/-- A write of cartridge RAM (R73, R85). -/
theorem memWrite_cartRam (s : State) (a : Word) (v : Byte) (hg : Region.of a = .cartRam) :
    memWrite a v s = if s.mapper.ramEnabled s.cfg.ramSize then cartStore a.toNat v s else s := by
  simp only [memWrite, hg]

section
variable (s : State) (a : Nat) (v : Byte)

theorem cartFetch_cell {i : Nat} (h : s.mapper.ramPlace s.cfg.ramSize a = .cell i) : cartFetch a s = s.peek .cartRam i := by
  simp only [cartFetch, h]
theorem cartFetch_nibble {i : Nat} (h : s.mapper.ramPlace s.cfg.ramSize a = .nibble i) :
    cartFetch a s = 0xF0 ||| s.peek .cartRam i := by
  simp only [cartFetch, h]
theorem cartFetch_clock {r : RtcReg} (h : s.mapper.ramPlace s.cfg.ramSize a = .clock r) :
    cartFetch a s = s.mapper.clockByte r := by
  simp only [cartFetch, h]
theorem cartFetch_nothing (h : s.mapper.ramPlace s.cfg.ramSize a = .nothing) : cartFetch a s = 0xFF := by
  simp only [cartFetch, h]

theorem cartStore_cell {i : Nat} (h : s.mapper.ramPlace s.cfg.ramSize a = .cell i) :
    cartStore a v s = s.poke .cartRam i v := by
  simp only [cartStore, h]
theorem cartStore_nibble {i : Nat} (h : s.mapper.ramPlace s.cfg.ramSize a = .nibble i) :
    cartStore a v s = s.poke .cartRam i (v &&& 0x0F) := by
  simp only [cartStore, h]
theorem cartStore_clock {r : RtcReg} (h : s.mapper.ramPlace s.cfg.ramSize a = .clock r) :
    cartStore a v s = { s with mapper := s.mapper.setClock r v } := by
  simp only [cartStore, h]
theorem cartStore_nothing (h : s.mapper.ramPlace s.cfg.ramSize a = .nothing) : cartStore a v s = s := by
  simp only [cartStore, h]

end

theorem bankPlace_ne_nibble (n bank a i : Nat) : bankPlace n bank a ≠ .nibble i := by
  unfold bankPlace
  split <;> exact nofun

/-- Only MBC2 has cells of four bits (R125). -/
theorem kind_of_ramPlace_nibble (m : Mapper) (n a i : Nat) (h : m.ramPlace n a = .nibble i) : m.kind = .mbc2 := by
  cases m with
  | none => exact absurd h (bankPlace_ne_nibble _ _ _ _)
  | mbc1 m => exact absurd h (bankPlace_ne_nibble _ _ _ _)
  | mbc2 m => rfl
  | mbc3 m =>
    simp only [Mapper.ramPlace] at h
    split at h
    · exact absurd h (bankPlace_ne_nibble _ _ _ _)
    · split at h <;> cases h
  | mbc5 m => exact absurd h (bankPlace_ne_nibble _ _ _ _)

/-- MBC2 has no other cells (R125). -/
theorem kind_ne_of_ramPlace_cell (m : Mapper) (n a i : Nat) (h : m.ramPlace n a = .cell i) : m.kind ≠ .mbc2 := by
  cases m with
  | mbc2 m => cases h
  | _ => exact nofun

/-! ## Plain storage (O49): the cell an address names, and a read and a write of it -/

/-- The ways an address names a cell: `cellOf`, row by row of the address map (R84 to R90). -/
inductive NamesCell (s : State) (a : Word) : Store → Nat → Prop
  | vram (hg : Region.of a = .vram) : NamesCell s a .vram (vramOffset a.toNat s)
  | wram (hg : Region.of a = .wram) : NamesCell s a .wram (wramOffset a.toNat s)
  | echo (hg : Region.of a = .echo) : NamesCell s a .wram (wramOffset (a.toNat - 0x2000) s)
  | oam (hg : Region.of a = .oam) : NamesCell s a .oam (a.toNat - 0xFE00)
  | hram (hg : Region.of a = .hram) : NamesCell s a .hram (a.toNat - 0xFF80)
  | cell (i : Nat) (hg : Region.of a = .cartRam) (gate : s.mapper.ramEnabled s.cfg.ramSize = true)
      (place : s.mapper.ramPlace s.cfg.ramSize a.toNat = .cell i) : NamesCell s a .cartRam i
  | nibble (i : Nat) (hg : Region.of a = .cartRam) (gate : s.mapper.ramEnabled s.cfg.ramSize = true)
      (place : s.mapper.ramPlace s.cfg.ramSize a.toNat = .nibble i) : NamesCell s a .cartRam i

theorem NamesCell.cellOf {s : State} {a : Word} {k : Store} {i : Nat} (h : NamesCell s a k i) : cellOf s a = some (k, i) := by
  cases h with
  | cell i hg gate place => simp only [Machine.cellOf, hg, gate, place, if_true]
  | nibble i hg gate place => simp only [Machine.cellOf, hg, gate, place, if_true]
  | _ hg => simp only [Machine.cellOf, hg]

theorem namesCell_of_cellOf {s : State} {a : Word} {k : Store} {i : Nat} (h : cellOf s a = some (k, i)) :
    NamesCell s a k i := by
  unfold cellOf at h
  cases hg : Region.of a <;> simp only [hg, reduceCtorEq, Option.some.injEq, Prod.mk.injEq] at h
  case vram => obtain ⟨rfl, rfl⟩ := h; exact .vram hg
  case wram => obtain ⟨rfl, rfl⟩ := h; exact .wram hg
  case echo => obtain ⟨rfl, rfl⟩ := h; exact .echo hg
  case oam => obtain ⟨rfl, rfl⟩ := h; exact .oam hg
  case hram => obtain ⟨rfl, rfl⟩ := h; exact .hram hg
  case cartRam =>
    split at h
    case isFalse => cases h
    case isTrue gate =>
      cases place : s.mapper.ramPlace s.cfg.ramSize a.toNat <;>
        simp only [place, reduceCtorEq, Option.some.injEq, Prod.mk.injEq] at h
      case cell => obtain ⟨rfl, rfl⟩ := h; exact .cell _ hg gate place
      case nibble => obtain ⟨rfl, rfl⟩ := h; exact .nibble _ hg gate place

/-- Where the DMA window does not answer, the dispatcher does (R72). -/
theorem memRead_open (s : State) (port : ReadPort) (a : Word) (h : s.dma.cyclesLeft = 0 ∨ Region.of a = .hram) :
    memRead port a s = dispatchRead (locked s) port a s := by
  refine if_neg ?_
  rintro ⟨hd, hg⟩
  exact h.elim (Nat.ne_of_gt hd) hg

/-- The mode-3 lock does not answer for the address (R84, R88). -/
def NotLockedAt (s : State) (a : Word) : Prop := locked s = true → Region.of a ≠ .vram ∧ Region.of a ≠ .oam

theorem NotLockedAt.vram {s : State} {a : Word} (h : NotLockedAt s a) (hg : Region.of a = .vram) : locked s = false := by
  rw [← Bool.not_eq_true]
  exact fun hl => (h hl).1 hg

theorem NotLockedAt.oam {s : State} {a : Word} (h : NotLockedAt s a) (hg : Region.of a = .oam) : locked s = false := by
  rw [← Bool.not_eq_true]
  exact fun hl => (h hl).2 hg

section
variable {s : State} {a : Word} {k : Store} {i : Nat}

/-- A whole byte's cell gives its byte. -/
theorem memRead_byteCell (h : NamesCell s a k i) (port : ReadPort) (window : s.dma.cyclesLeft = 0 ∨ Region.of a = .hram)
    (lock : NotLockedAt s a) (byte : ¬(Region.of a = .cartRam ∧ s.mapper.kind = .mbc2)) :
    memRead port a s = s.peek k i := by
  rw [memRead_open s port a window]
  cases h with
  | vram hg => simp only [dispatchRead, hg, lock.vram hg, Bool.false_eq_true, if_false]
  | oam hg => simp only [dispatchRead, hg, lock.oam hg, Bool.false_eq_true, if_false]
  | cell i hg gate place => simp only [dispatchRead, hg, cartRead, gate, if_true, cartFetch_cell _ _ place]
  | nibble i hg gate place => exact absurd ⟨hg, kind_of_ramPlace_nibble _ _ _ _ place⟩ byte
  | _ hg => simp only [dispatchRead, hg]

/-- A whole byte's cell takes the byte. -/
theorem memWrite_byteCell (h : NamesCell s a k i) (v : Byte) (lock : NotLockedAt s a)
    (byte : ¬(Region.of a = .cartRam ∧ s.mapper.kind = .mbc2)) : memWrite a v s = s.poke k i v := by
  cases h with
  | vram hg => simp only [memWrite, hg, lock.vram hg, Bool.false_eq_true, if_false]
  | oam hg => simp only [memWrite, hg, lock.oam hg, Bool.false_eq_true, if_false]
  | cell i hg gate place => rw [memWrite_cartRam s a v hg, if_pos gate, cartStore_cell _ _ _ place]
  | nibble i hg gate place => exact absurd ⟨hg, kind_of_ramPlace_nibble _ _ _ _ place⟩ byte
  | _ hg => simp only [memWrite, hg]

/-- Reading a whole byte's cell after a write of it. -/
theorem memRead_memWrite_byteCell (h : NamesCell s a k i) (hs : StoresWf s) (v : Byte) (port : ReadPort)
    (window : s.dma.cyclesLeft = 0 ∨ Region.of a = .hram) (lock : NotLockedAt s a)
    (byte : ¬(Region.of a = .cartRam ∧ s.mapper.kind = .mbc2)) : memRead port a (memWrite a v s) = v := by
  rw [memWrite_byteCell h v lock byte]
  have hp : NamesCell (s.poke k i v) a k i := namesCell_of_cellOf h.cellOf
  rw [memRead_byteCell hp port window lock byte, peek_poke_same s k i v (hs k)]

/-- Reading a cell of MBC2 after a write of it: the low nibble is kept, the high one reads 1s (R125). -/
theorem memRead_memWrite_nibble (h : NamesCell s a k i) (hs : StoresWf s) (v : Byte) (port : ReadPort)
    (window : s.dma.cyclesLeft = 0) (hg : Region.of a = .cartRam) (hk : s.mapper.kind = .mbc2) :
    memRead port a (memWrite a v s) = 0xF0 ||| (v &&& 0x0F) := by
  cases h with
  | nibble i _ gate place =>
    rw [memWrite_cartRam s a v hg, if_pos gate, cartStore_nibble _ _ _ place,
      memRead_cartRam (s.poke .cartRam i (v &&& 0x0F)) a port hg window]
    refine (if_pos gate).trans ?_
    rw [cartFetch_nibble (s.poke .cartRam i (v &&& 0x0F)) _ place, peek_poke_same s _ i _ (hs .cartRam)]
  | cell i _ gate place => exact absurd hk (kind_ne_of_ramPlace_cell _ _ _ _ place)
  | _ hg' => rw [hg'] at hg; cases hg

end

/-- The cells outside cartridge RAM, by address range (R84, R86, R88, R90). -/
theorem cellOf_ranges (s : State) (a : Word) :
    (0x8000 ≤ a.toNat → a.toNat < 0xA000 → cellOf s a = some (.vram, vramBank s * 0x2000 + (a.toNat - 0x8000))) ∧
    (0xC000 ≤ a.toNat → a.toNat < 0xD000 → cellOf s a = some (.wram, a.toNat - 0xC000)) ∧
    (0xD000 ≤ a.toNat → a.toNat < 0xE000 → cellOf s a = some (.wram, wramBank s * 0x1000 + (a.toNat - 0xD000))) ∧
    (0xFE00 ≤ a.toNat → a.toNat < 0xFEA0 → cellOf s a = some (.oam, a.toNat - 0xFE00)) ∧
    (0xFF80 ≤ a.toNat → a.toNat < 0xFFFF → cellOf s a = some (.hram, a.toNat - 0xFF80)) := by
  refine ⟨fun h1 h2 => (NamesCell.vram (region_vram h1 h2)).cellOf, fun h1 h2 => ?bank0, fun h1 h2 => ?bankN,
    fun h1 h2 => (NamesCell.oam (region_oam h1 h2)).cellOf, fun h1 h2 => (NamesCell.hram (region_hram h1 h2)).cellOf⟩
  case bank0 => rw [(NamesCell.wram (region_wram h1 (by omega))).cellOf, wramOffset, if_pos h2]
  case bankN => rw [(NamesCell.wram (region_wram (by omega) h2)).cellOf, wramOffset, if_neg (by omega)]

/-- An echo address names the cell 0x2000 below it (R87). -/
theorem cellOf_echo (s : State) (a : Word) (h1 : 0xE000 ≤ a.toNat) (h2 : a.toNat < 0xFE00) :
    cellOf s a = cellOf s (a - 0x2000) ∧ cellOf s a ≠ none := by
  have below : (a - 0x2000).toNat = a.toNat - 0x2000 := BitVec.toNat_sub_of_le (by rw [BitVec.le_def]; simp; omega)
  have here := (NamesCell.echo (s := s) (region_echo h1 h2)).cellOf
  have there := (NamesCell.wram (s := s) (region_wram (a := a - 0x2000) (by omega) (by omega))).cellOf
  rw [here, there, below]
  exact ⟨rfl, nofun⟩

/-- While mode 3 locks VRAM and OAM they read 0xFF and drop a write, whether the DMA window is open or closed (R84, R88). -/
theorem locked_access (s : State) (a : Word) (v : Byte) (port : ReadPort) (hl : locked s = true)
    (hg : Region.of a = .vram ∨ Region.of a = .oam) : memRead port a s = 0xFF ∧ memWrite a v s = s := by
  have dispatch : dispatchRead (locked s) port a s = 0xFF := by
    obtain hg | hg := hg <;> simp only [dispatchRead, hg, hl, if_true]
  refine ⟨?_, by obtain hg | hg := hg <;> simp only [memWrite, hg, hl, if_true]⟩
  unfold memRead
  split
  · rfl
  · exact dispatch

/-- Settles O49: each row of the address map names its cells, and a cell's read and write go through `NamesCell`. -/
theorem readAfterWrite : Obligations.ReadAfterWrite := by
  refine ⟨fun s a v port hs hc window lock => ⟨fun byte => ?byte, fun ⟨hg, hk⟩ => ?nibble⟩, cellOf_ranges,
    fun s a port k i hc window lock byte => memRead_byteCell (namesCell_of_cellOf hc) port window lock byte,
    fun s a v hc port b hb => memRead_memWrite_other s a b v port hc (hb a (List.mem_singleton_self a)), cellOf_echo,
    locked_access, fun s v port hd => ⟨memRead_closed_window s port 0xFFFF hd, rfl⟩⟩
  case byte =>
    obtain ⟨⟨k, i⟩, hc⟩ := Option.ne_none_iff_exists'.1 hc
    exact memRead_memWrite_byteCell (namesCell_of_cellOf hc) hs v port window lock byte
  case nibble =>
    obtain ⟨⟨k, i⟩, hc⟩ := Option.ne_none_iff_exists'.1 hc
    have hd : s.dma.cyclesLeft = 0 := window.resolve_right (by rw [hg]; exact nofun)
    exact memRead_memWrite_nibble (namesCell_of_cellOf hc) hs v port hd hg hk

end Sys2Proof.Machine

/-! ## The mappers (O53): control writes on numbers, and the byte a ROM or RAM address names -/

namespace Sys2Proof.Machine

/-! ### Control writes -/

/-- The 0xA pattern as a number (R129). -/
theorem enablesRam_eq (v : Byte) : enablesRam v = decide (v.toNat % 16 = 0xA) := by
  rw [Bool.eq_iff_iff, enablesRam, extractLsb'_zero_eq_ofNat]
  simp [← BitVec.toNat_inj]

/-- A latched bank of `w` bits as a number, where 0 selects 1 (R123, R125, R126). -/
theorem zeroToOne_low (v : Byte) (w n : Nat) (hn : n = 2 ^ w) :
    zeroToOne (v.extractLsb' 0 w) = BitVec.ofNat w (if v.toNat % n = 0 then 1 else v.toNat % n) := by
  have zero : BitVec.ofNat w v.toNat = 0 ↔ v.toNat % n = 0 := by simp [← BitVec.toNat_inj, hn]
  rw [zeroToOne, extractLsb'_zero_eq_ofNat]
  by_cases h : v.toNat % n = 0
  · rw [if_pos (zero.2 h), if_pos h]
    rfl
  · rw [if_neg fun e => h (zero.1 e), if_neg h]
    apply BitVec.eq_of_toNat_eq
    simp [hn]

/-- MBC5's low bank latch replaces the low eight of nine bits (R128). -/
theorem mbc5_lowLatch (bank : BitVec 9) (v : Byte) :
    bank.extractLsb' 8 1 ++ v = BitVec.ofNat 9 (bank.toNat / 256 * 256 + v.toNat) := by
  apply BitVec.eq_of_toNat_eq
  rw [toNat_append_add, BitVec.extractLsb'_toNat, BitVec.toNat_ofNat, Nat.shiftRight_eq_div_pow]
  omega

/-- MBC5's high bank latch replaces the ninth bit (R128). -/
theorem mbc5_highLatch (bank : BitVec 9) (v : Byte) :
    v.extractLsb' 0 1 ++ bank.extractLsb' 0 8 = BitVec.ofNat 9 (v.toNat % 2 * 256 + bank.toNat % 256) := by
  apply BitVec.eq_of_toNat_eq
  rw [toNat_append_add, BitVec.extractLsb'_toNat, BitVec.extractLsb'_toNat, BitVec.toNat_ofNat, Nat.shiftRight_zero,
    Nat.shiftRight_zero]
  omega

theorem mbc1_control (m : Mbc1) (a : Nat) (v : Byte) :
    m.control a v =
      if a < 0x2000 then { m with ramEnable := decide (v.toNat % 16 = 0xA) }
      else if a < 0x4000 then { m with bank1 := BitVec.ofNat 5 (if v.toNat % 32 = 0 then 1 else v.toNat % 32) }
      else if a < 0x6000 then { m with bank2 := BitVec.ofNat 2 v.toNat } else { m with mode := BitVec.ofNat 1 v.toNat } := by
  rw [Mbc1.control, enablesRam_eq, zeroToOne_low v 5 32 rfl, extractLsb'_zero_eq_ofNat, extractLsb'_zero_eq_ofNat]

theorem mbc2_control (m : Mbc2) (a : Nat) (v : Byte) :
    m.control a v =
      if 0x4000 ≤ a then m
      else if a.testBit 8 then { m with romBank := BitVec.ofNat 4 (if v.toNat % 16 = 0 then 1 else v.toNat % 16) }
      else { m with ramEnable := decide (v.toNat % 16 = 0xA) } := by
  rw [Mbc2.control, enablesRam_eq, zeroToOne_low v 4 16 rfl, Nat.testBit_eq_decide_div_mod_eq]
  by_cases above : 0x4000 ≤ a
  · rw [if_neg (by omega), if_pos above]
  · rw [if_pos (by omega), if_neg above]
    by_cases latch : a / 256 % 2 = 0
    · rw [if_pos latch, if_neg (by simp [latch])]
    · rw [if_neg latch, if_pos (decide_eq_true (by omega))]

theorem mbc3_control (m : Mbc3) (a : Nat) (v : Byte) :
    m.control a v =
      if a < 0x2000 then { m with ramEnable := decide (v.toNat % 16 = 0xA) }
      else if a < 0x4000 then { m with romBank := BitVec.ofNat 7 (if v.toNat % 128 = 0 then 1 else v.toNat % 128) }
      else if a < 0x6000 then { m with ramRtcSel := BitVec.ofNat 4 v.toNat } else { m with latchPrev := v } := by
  rw [Mbc3.control, enablesRam_eq, zeroToOne_low v 7 128 rfl, extractLsb'_zero_eq_ofNat]

theorem mbc5_control (m : Mbc5) (a : Nat) (v : Byte) :
    m.control a v =
      if a < 0x2000 then { m with ramEnable := decide (v.toNat % 16 = 0xA) }
      else if a < 0x3000 then { m with romBank := BitVec.ofNat 9 (m.romBank.toNat / 256 * 256 + v.toNat) }
      else if a < 0x4000 then { m with romBank := BitVec.ofNat 9 (v.toNat % 2 * 256 + m.romBank.toNat % 256) }
      else if a < 0x6000 then { m with ramBank := BitVec.ofNat 4 v.toNat } else m := by
  rw [Mbc5.control, enablesRam_eq, mbc5_lowLatch, mbc5_highLatch, extractLsb'_zero_eq_ofNat]

/-- A write below 0x8000 is a control write (R83). -/
theorem memWrite_control (s : State) (a : Word) (v : Byte) (h : a.toNat < 0x8000) :
    memWrite a v s = { s with mapper := s.mapper.control a.toNat v } := by
  by_cases h0 : a.toNat < 0x4000
  · simp only [memWrite, region_rom0 h0]
  · simp only [memWrite, region_romN (Nat.le_of_not_lt h0) h]

/-! ### ROM -/

/-- With no boot ROM mapped the low half reads the image at the address (R81). -/
theorem memRead_rom0_unmapped (s : State) (a : Word) (port : ReadPort) (hd : s.dma.cyclesLeft = 0)
    (hb : s.bootMapped = false) (h : a.toNat < 0x4000) : memRead port a s = s.peek .rom (a.toNat % s.cfg.romSize) := by
  rw [memRead_rom0 a h port s hd, bootOverlay, hb, Bool.false_and, if_neg Bool.false_ne_true]

/-- The high half reads the selected bank (R82). -/
theorem memRead_romN (s : State) (a : Word) (port : ReadPort) (hd : s.dma.cyclesLeft = 0) (h1 : 0x4000 ≤ a.toNat)
    (h2 : a.toNat < 0x8000) :
    memRead port a s = s.peek .rom ((s.mapper.romBankN * 0x4000 + (a.toNat - 0x4000)) % s.cfg.romSize) := by
  rw [memRead_closed_window s port a hd]
  simp only [dispatchRead, region_romN h1 h2, romOffsetN]

/-! ### Cartridge RAM -/

/-- The place of the clock register in the order of its selectors 0x8 to 0xC (R127). -/
def RtcReg.index : RtcReg → Nat
  | .seconds => 0 | .minutes => 1 | .hours => 2 | .dayLow => 3 | .dayHigh => 4

theorem ofSelector_eq_some_iff (sel : BitVec 4) (r : RtcReg) :
    RtcReg.ofSelector sel = some r ↔ sel.toNat = 8 + r.index := by
  revert sel
  cases r <;> decide

theorem ofSelector_eq_none_iff (sel : BitVec 4) : RtcReg.ofSelector sel = none ↔ sel.toNat < 8 ∨ 12 < sel.toNat := by
  revert sel
  decide

/-- The five clock registers as a list, in the order of their selectors (R127). -/
def Rtc.bytes (t : Rtc) : List Byte := [t.seconds, t.minutes, t.hours, t.dayLow, t.dayHigh]

theorem rtc_get_eq (t : Rtc) (r : RtcReg) : t.get r = t.bytes.getD r.index 0 := by
  cases r <;> rfl
theorem rtc_bytes_set (t : Rtc) (r : RtcReg) (v : Byte) : (t.set r v).bytes = t.bytes.set r.index v := by
  cases r <;> rfl
theorem rtc_get_set_same (t : Rtc) (r : RtcReg) (v : Byte) : (t.set r v).get r = v := by
  cases r <;> rfl

/-- A selector from 0x8 to 0xC names a clock register (R127). -/
theorem exists_rtcReg_of_selector (sel : BitVec 4) (h1 : 8 ≤ sel.toNat) (h2 : sel.toNat ≤ 12) :
    ∃ r, RtcReg.ofSelector sel = some r ∧ sel.toNat - 8 = r.index := by
  obtain ⟨r, hr⟩ := Option.ne_none_iff_exists'.1 fun e => by
    have := (ofSelector_eq_none_iff sel).1 e
    omega
  have := (ofSelector_eq_some_iff sel r).1 hr
  exact ⟨r, hr, by omega⟩

section
variable (n a : Nat) (m : Mbc3)

theorem ramPlace_mbc3_bank (h : m.ramRtcSel.toNat ≤ 3) :
    (Mapper.mbc3 m).ramPlace n a = bankPlace n m.ramRtcSel.toNat a := by
  rw [Mapper.ramPlace, if_pos h]
theorem ramPlace_mbc3_clock (r : RtcReg) (h : RtcReg.ofSelector m.ramRtcSel = some r) :
    (Mapper.mbc3 m).ramPlace n a = .clock r := by
  have := (ofSelector_eq_some_iff _ _).1 h
  rw [Mapper.ramPlace, if_neg (by omega), h]
theorem ramPlace_mbc3_nothing (h1 : 4 ≤ m.ramRtcSel.toNat) (h2 : m.ramRtcSel.toNat < 8 ∨ 12 < m.ramRtcSel.toNat) :
    (Mapper.mbc3 m).ramPlace n a = .nothing := by
  rw [Mapper.ramPlace, if_neg (by omega), (ofSelector_eq_none_iff _).2 h2]

end

theorem bankPlace_zero (bank a : Nat) : bankPlace 0 bank a = .nothing := rfl

theorem bankPlace_pos (n bank a : Nat) (h : 0 < n) : bankPlace n bank a = .cell ((bank * 0x2000 + (a - 0xA000)) % n) :=
  if_neg (Nat.ne_of_gt h)

/-- Without RAM no bank is there: MBC1, MBC5, and MBC3 with a bank selected (R85). -/
theorem ramPlace_of_ramSize_zero (m : Mapper) (a : Nat)
    (h : m.kind = .mbc1 ∨ m.kind = .mbc5 ∨ ∃ x, m = .mbc3 x ∧ x.ramRtcSel.toNat ≤ 3) : m.ramPlace 0 a = .nothing := by
  cases m with
  | none => simp [Mapper.kind] at h
  | mbc1 m => rfl
  | mbc2 m => simp [Mapper.kind] at h
  | mbc3 m =>
    have bank : m.ramRtcSel.toNat ≤ 3 := by simpa [Mapper.kind] using h
    rw [ramPlace_mbc3_bank 0 a m bank, bankPlace_zero]
  | mbc5 m => rfl

section
variable (s : State) (a : Word) (v : Byte) (port : ReadPort) (hg : Region.of a = .cartRam) (hd : s.dma.cyclesLeft = 0)
include hg hd

/-- A closed gate reads 0xFF and drops the write (R85). -/
theorem cartRam_closed (gate : s.mapper.ramEnabled s.cfg.ramSize = false) : memRead port a s = 0xFF ∧ memWrite a v s = s := by
  rw [memRead_cartRam s a port hg hd, memWrite_cartRam s a v hg, cartRead, gate]
  exact ⟨rfl, rfl⟩

/-- A place with nothing behind it reads 0xFF and drops the write, the gate open or closed (R85). -/
theorem cartRam_nothing (place : s.mapper.ramPlace s.cfg.ramSize a.toNat = .nothing) :
    memRead port a s = 0xFF ∧ memWrite a v s = s := by
  rw [memRead_cartRam s a port hg hd, memWrite_cartRam s a v hg, cartRead, cartFetch_nothing s _ place,
    cartStore_nothing s _ v place]
  exact ⟨ite_self _, ite_self _⟩

/-- Behind an open gate a selected clock register is read and written as plain storage (R127). -/
theorem cartRam_clock (m : Mbc3) (hm : s.mapper = .mbc3 m) (gate : m.ramEnable = true) (r : RtcReg)
    (hr : RtcReg.ofSelector m.ramRtcSel = some r) :
    memRead port a s = m.rtc.get r ∧
      memWrite a v s = { s with mapper := .mbc3 { m with rtc := m.rtc.set r v } } := by
  have place : s.mapper.ramPlace s.cfg.ramSize a.toNat = .clock r := by rw [hm, ramPlace_mbc3_clock _ _ _ _ hr]
  have opened : s.mapper.ramEnabled s.cfg.ramSize = true := by rw [hm]; exact gate
  rw [memRead_cartRam s a port hg hd, memWrite_cartRam s a v hg, cartRead, if_pos opened, if_pos opened,
    cartFetch_clock s _ place, cartStore_clock s _ v place, hm]
  exact ⟨rfl, rfl⟩

/-- A clock register reads back what was written to it (R127). -/
theorem memRead_memWrite_clock (m : Mbc3) (hm : s.mapper = .mbc3 m) (gate : m.ramEnable = true) (r : RtcReg)
    (hr : RtcReg.ofSelector m.ramRtcSel = some r) : memRead port a (memWrite a v s) = v := by
  rw [(cartRam_clock s a v port hg hd m hm gate r hr).2,
    (cartRam_clock { s with mapper := .mbc3 { m with rtc := m.rtc.set r v } } a v port hg hd _ rfl gate r hr).1]
  exact rtc_get_set_same _ _ _

end

/-- Behind an open gate the address names the RAM cell of its place. -/
theorem cellOf_bankPlace (s : State) (a : Word) (bank : Nat) (hg : Region.of a = .cartRam)
    (gate : s.mapper.ramEnabled s.cfg.ramSize = true) (hsize : 0 < s.cfg.ramSize)
    (place : s.mapper.ramPlace s.cfg.ramSize a.toNat = bankPlace s.cfg.ramSize bank a.toNat) :
    cellOf s a = some (.cartRam, (bank * 0x2000 + (a.toNat - 0xA000)) % s.cfg.ramSize) :=
  (NamesCell.cell _ hg gate (place.trans (bankPlace_pos _ _ _ hsize))).cellOf

/-- MBC1's RAM bank: the second latch in mode 1, else 0 (R124). -/
theorem mbc1_ramBank (m : Mbc1) : (if m.mode = 1 then m.bank2.toNat else 0) = if m.mode = 0 then 0 else m.bank2.toNat := by
  obtain h | h : m.mode = 0 ∨ m.mode = 1 := by
    generalize m.mode = mode
    revert mode
    decide
  all_goals simp [h]

/-- Settles O53: a control write by kind and range, then each place a cartridge address can have. -/
theorem mapperControlAndBanks : Obligations.MapperControlAndBanks := by
  refine ⟨memWrite_control, fun a v _ => ?control, fun s a port hd hb _ => ?rom, fun s a v port hg hd => ?ram⟩
  case control =>
    exact ⟨rfl, fun m => congrArg Mapper.mbc1 (mbc1_control m a v), fun m => congrArg Mapper.mbc2 (mbc2_control m a v),
      fun m => congrArg Mapper.mbc3 (mbc3_control m a v), fun m => congrArg Mapper.mbc5 (mbc5_control m a v)⟩
  case rom =>
    intro bank
    have hbank : bank = s.mapper.romBankN := by
      dsimp only [bank]
      cases s.mapper <;> rfl
    rw [hbank]
    exact ⟨memRead_rom0_unmapped s a port hd hb, memRead_romN s a port hd⟩
  case ram =>
    intro offset gate
    have hgate : gate = s.mapper.ramEnabled s.cfg.ramSize := by
      dsimp only [gate]
      cases s.mapper <;> rfl
    rw [hgate]
    refine ⟨cartRam_closed s a v port hg hd, fun _ hsize hm => ?noRam,
      fun gateOpen hsize => ⟨fun hm => ?noneCell, fun m hm => ?mbc1Cell, fun m hm hsel => ?mbc3Cell, fun m hm => ?mbc5Cell⟩,
      fun gateOpen m hm => ?mbc2Cell,
      fun gateOpen m hm hsel => ⟨fun hout => ?mbc3Nothing, fun h1 h2 => ?clock⟩⟩
    case noRam => exact cartRam_nothing s a v port hg hd (by rw [hsize]; exact ramPlace_of_ramSize_zero _ _ hm)
    case noneCell => simpa using cellOf_bankPlace s a 0 hg gateOpen hsize (by rw [hm]; rfl)
    case mbc1Cell =>
      rw [mbc1_ramBank]
      exact cellOf_bankPlace s a _ hg gateOpen hsize (by rw [hm]; rfl)
    case mbc3Cell => exact cellOf_bankPlace s a _ hg gateOpen hsize (by rw [hm]; exact ramPlace_mbc3_bank _ _ m hsel)
    case mbc5Cell => exact cellOf_bankPlace s a _ hg gateOpen hsize (by rw [hm]; rfl)
    case mbc2Cell => exact (NamesCell.nibble _ hg gateOpen (by rw [hm]; rfl)).cellOf
    case mbc3Nothing =>
      exact cartRam_nothing s a v port hg hd (by rw [hm]; exact ramPlace_mbc3_nothing _ _ m hsel hout)
    case clock =>
      obtain ⟨r, hr, hi⟩ := exists_rtcReg_of_selector m.ramRtcSel h1 h2
      have ramEnable : m.ramEnable = true := by rw [hm] at gateOpen; exact gateOpen
      refine ⟨?_, memRead_memWrite_clock s a v port hg hd m hm ramEnable r hr⟩
      rw [(cartRam_clock s a v port hg hd m hm ramEnable r hr).1, hi]
      exact rtc_get_eq m.rtc r

end Sys2Proof.Machine

/-! ## OAM DMA (O42): the copy reads each source byte as it stood before the copy, and the window closes the bus -/

namespace Sys2Proof.Machine

/-- The machine as the DMA engine reads it: no window, no mode-3 lock (R105). -/
def dmaView (s : State) : State :=
  { s with dma := { s.dma with cyclesLeft := 0 }, cfg := { s.cfg with mode3Lock := false } }

theorem dmaSource_eq_memRead (port : ReadPort) (a : Word) (s : State) : dmaSource port a s = memRead port a (dmaView s) :=
  (memRead_closed_window (dmaView s) port a rfl).symm

/-- Only the source address that names the OAM byte itself sees a store to it. -/
theorem dmaSource_poke_oam (port : ReadPort) (a : Word) (s : State) (i : Nat) (w : Byte)
    (h : Region.of a = .oam → a.toNat - 0xFE00 ≠ i) : dmaSource port a (s.poke .oam i w) = dmaSource port a s := by
  rw [dmaSource_eq_memRead, dmaSource_eq_memRead]
  refine memRead_poke_other (dmaView s) .oam i w rfl port a fun hc => ?_
  cases namesCell_of_cellOf hc with
  | oam hg => exact h hg rfl

/-- The copy from `i` on leaves the bytes below `i` alone. -/
theorem dmaCopy_peek_below (src : Word) (n i : Nat) (s : State) (j : Nat) (hj : j < i) :
    (dmaCopy src n i s).peek .oam j = s.peek .oam j := by
  induction n generalizing i s with
  | zero => rfl
  | succ n ih =>
    have ne : (Store.oam, j) ≠ (Store.oam, i) := fun e => Nat.ne_of_lt hj (Prod.mk.inj e).2
    rw [dmaCopy, ih _ _ (Nat.lt_succ_of_lt hj), peek_poke_other _ _ _ _ _ _ ne]

/-- Each byte the copy stores is the source's before the copy, where a source in OAM is its own destination (R105). -/
theorem dmaCopy_peek (src : Word) (n i : Nat) (s : State) (hs : StoresWf s) (j : Nat) (h1 : i ≤ j) (h2 : j < i + n)
    (own : ∀ j < i + n, Region.of (src + BitVec.ofNat 16 j) = .oam → (src + BitVec.ofNat 16 j).toNat - 0xFE00 = j) :
    (dmaCopy src n i s).peek .oam j = dmaSource (.dma j) (src + BitVec.ofNat 16 j) s := by
  induction n generalizing i s with
  | zero => omega
  | succ n ih =>
    rw [dmaCopy]
    obtain rfl | above := Nat.eq_or_lt_of_le h1
    · rw [dmaCopy_peek_below _ _ _ _ _ (Nat.lt_succ_self i), peek_poke_same _ _ _ _ (hs .oam)]
    · rw [ih (i + 1) _ (storesWf_poke _ _ _ _ hs) above (by omega) fun j hj => own j (by omega)]
      refine dmaSource_poke_oam _ _ _ _ _ fun hg => ?_
      rw [own j h2 hg]
      omega

/-- Only OAM's addresses lie in OAM (R80). -/
theorem range_of_region_oam {a : Word} (h : Region.of a = .oam) : 0xFE00 ≤ a.toNat ∧ a.toNat < 0xFEA0 := by
  simp only [Region.of, ite_eq_iff, reduceCtorEq, and_false, and_true, false_or, or_false] at h
  omega

/-- The source address of byte `i` (R105). -/
theorem dmaAddress_eq (v : Byte) (i : Nat) : wordOf v 0 + BitVec.ofNat 16 i = BitVec.ofNat 16 (v.toNat * 256 + i) := by
  apply BitVec.eq_of_toNat_eq
  rw [BitVec.toNat_add, wordOf, toNat_append_add]
  simp

/-- A source in OAM is page 0xFE, where each byte is copied onto itself. -/
theorem dmaAddress_oam (v : Byte) (i : Nat) (hi : i < 160) (h : Region.of (wordOf v 0 + BitVec.ofNat 16 i) = .oam) :
    (wordOf v 0 + BitVec.ofNat 16 i).toNat - 0xFE00 = i := by
  have range := range_of_region_oam h
  rw [dmaAddress_eq, BitVec.toNat_ofNat] at range ⊢
  omega

/-- The OAM bytes after a DMA start (R105). -/
theorem startDma_peek_oam (v : Byte) (s : State) (hs : StoresWf s) (i : Nat) (hi : i < 160) :
    (startDma v s).peek .oam i =
      dmaSource (.dma i) (BitVec.ofNat 16 (v.toNat * 256 + i)) { s with dma := { s.dma with reg := v } } := by
  obtain ⟨n, hn, e⟩ := startDma_eq
  rw [← dmaAddress_eq, e]
  exact dmaCopy_peek (wordOf v 0) n 0 { s with dma := { s.dma with reg := v } } (storesWf_congr s _ rfl hs) i (Nat.zero_le i)
    (by omega) fun j hj => dmaAddress_oam v j (by omega)

/-- The rest of a DMA start: everything but OAM, the register and the window stays (R105). -/
theorem startDma_frame (v : Byte) (s : State) :
    startDma v s = { s with mem := { s.mem with oam := (startDma v s).mem.oam }, dma := { reg := v, cyclesLeft := 640 } } := by
  obtain ⟨oam, e⟩ := startDma_keeps v s
  rw [e]

/-- HRAM reads its cell whether the window is open or closed (R72, R90). -/
theorem memRead_hram (s : State) (port : ReadPort) (a : Word) (hg : Region.of a = .hram) :
    memRead port a s = s.peek .hram (a.toNat - 0xFF80) := by
  rw [memRead_open s port a (.inr hg)]
  simp only [dispatchRead, hg]

/-- Settles O42: the write is `startDma`, whose copy and frame stand above; the window answers everywhere but in HRAM. -/
theorem oamDmaCopyAndWindow : Obligations.OamDmaCopyAndWindow := by
  refine ⟨fun v s hs => ?write, fun s port a => ⟨fun hd hg => if_pos ⟨hd, hg⟩, memRead_hram s port a,
    memRead_closed_window s port a⟩, fun n s => ⟨(Nat.zero_max _).symm, rfl, rfl⟩,
    fun port s hd => memRead_ioReg .dma 0xFF46 rfl rfl port s hd⟩
  rw [memWrite_ioReg .dma 0xFF46 rfl rfl]
  exact ⟨startDma_peek_oam v s hs, startDma_frame v s⟩

end Sys2Proof.Machine

/-! ## The host's accesses (O23): raw access is the CPU's access of the unguarded machine -/

namespace Sys2Proof.Machine

/-! ### The machine with its RAM-enable latch set -/

@[simp] theorem Mapper.ramPlace_opened (m : Mapper) (n a : Nat) : m.opened.ramPlace n a = m.ramPlace n a := by
  cases m <;> rfl
@[simp] theorem Mapper.romBankN_opened (m : Mapper) : m.opened.romBankN = m.romBankN := by cases m <;> rfl
@[simp] theorem Mapper.clockByte_opened (m : Mapper) (r : RtcReg) : m.opened.clockByte r = m.clockByte r := by cases m <;> rfl

/-- A set latch opens the gate, but without a mapper RAM is there only when it has a size (R122, R129). -/
theorem ramEnabled_opened (m : Mapper) (n : Nat) (h : 0 < n ∨ m.kind ≠ .none) : m.opened.ramEnabled n = true := by
  cases m with
  | none => exact decide_eq_true (h.resolve_right fun hk => hk rfl)
  | _ => rfl

theorem locked_unguarded (s : State) : locked (unguarded s) = false := rfl

theorem cartFetch_unguarded (a : Nat) (s : State) : cartFetch a (unguarded s) = cartFetch a s := by
  unfold cartFetch
  simp only [unguarded, Mapper.ramPlace_opened, Mapper.clockByte_opened]
  rfl

/-! ### Raw reads -/

/-- With the latch set, a read of cartridge RAM gives what `ReadRam` gives: a closed gate has nothing behind it (R85). -/
theorem cartRead_unguarded (a : Nat) (s : State) : cartRead a (unguarded s) = cartFetch a s := by
  by_cases h : 0 < s.cfg.ramSize ∨ s.mapper.kind ≠ .none
  · exact (if_pos (ramEnabled_opened s.mapper s.cfg.ramSize h)).trans (cartFetch_unguarded a s)
  · obtain ⟨hn, hk⟩ := not_or.1 h
    have size : s.cfg.ramSize = 0 := Nat.eq_zero_of_not_pos hn
    have mapper : s.mapper = .none := by
      cases hm : s.mapper with
      | none => rfl
      | _ => exact absurd (by rw [hm]; exact nofun) hk
    have place : s.mapper.ramPlace s.cfg.ramSize a = .nothing := by rw [mapper, size]; rfl
    rw [cartFetch_nothing s a place, cartRead, cartFetch_unguarded, cartFetch_nothing s a place]
    exact ite_self _

/-- A raw read is the CPU's read of the unguarded machine (R74, D21). -/
theorem rawRead_eq_memRead_unguarded (port : ReadPort) (a : Word) (s : State) :
    rawRead port a s = memRead port a (unguarded s) := by
  rw [memRead_closed_window (unguarded s) port a rfl, locked_unguarded]
  unfold rawRead dispatchRead
  cases Region.of a <;> dsimp only
  case cartRam => exact (cartRead_unguarded a.toNat s).symm
  case romN =>
    have offset : romOffsetN a.toNat (unguarded s) = romOffsetN a.toNat s := by
      simp only [romOffsetN, unguarded, Mapper.romBankN_opened]
    rw [offset]
    rfl
  all_goals rfl

/-! ### Raw writes outside the I/O page -/

/-- ROM and the unusable range take no raw write (R74, R83, R89). -/
theorem rawWrite_dropped (s : State) (a : Word) (v : Byte)
    (h : a.toNat < 0x8000 ∨ (0xFEA0 ≤ a.toNat ∧ a.toNat < 0xFF00)) : rawWrite a v s = s := by
  obtain h | ⟨h1, h2⟩ := h
  · by_cases h0 : a.toNat < 0x4000
    · simp only [rawWrite, region_rom0 h0]
    · simp only [rawWrite, region_romN (Nat.le_of_not_lt h0) h]
  · simp only [rawWrite, region_unusable h1 h2]

/-- Behind the guards a raw write of plain storage is the CPU's (R74). -/
theorem rawWrite_plain (s : State) (a : Word) (v : Byte) (h : Region.of a ∈ [Region.vram, .wram, .echo, .oam, .hram]) :
    rawWrite a v s = { s with mem := (memWrite a v (unguarded s)).mem } := by
  unfold rawWrite memWrite
  rw [locked_unguarded]
  cases hg : Region.of a <;> rw [hg] at h
  case vram | wram | echo | oam | hram => rfl
  all_goals simp at h

theorem rawWrite_cartRam (s : State) (a : Word) (v : Byte) (hg : Region.of a = .cartRam) :
    rawWrite a v s = if s.cfg.ramSize = 0 ∧ s.mapper.kind ≠ .mbc2 then s else cartStore a.toNat v s := by
  simp only [rawWrite, hg]

/-- With RAM there a raw write stores, the latch open or closed (R74, D21; log entry 17). -/
theorem rawWrite_cartRam_present (s : State) (a : Word) (v : Byte) (hg : Region.of a = .cartRam)
    (h : 0 < s.cfg.ramSize ∨ s.mapper.kind = .mbc2) : rawWrite a v s = cartStore a.toNat v s := by
  rw [rawWrite_cartRam s a v hg]
  exact if_neg fun ⟨hn, hk⟩ => h.elim (Nat.ne_of_gt · hn) hk

theorem bankPlace_ne_clock (n bank a : Nat) (r : RtcReg) : bankPlace n bank a ≠ .clock r := by
  unfold bankPlace
  split <;> exact nofun

/-- Only MBC3 with a clock selector has a clock register there (R127). -/
theorem selector_of_ramPlace_clock (m : Mapper) (n a : Nat) (r : RtcReg) (h : m.ramPlace n a = .clock r) :
    ∃ x, m = .mbc3 x ∧ 8 ≤ x.ramRtcSel.toNat ∧ x.ramRtcSel.toNat ≤ 12 := by
  cases m with
  | none => exact absurd h (bankPlace_ne_clock _ _ _ _)
  | mbc1 m => exact absurd h (bankPlace_ne_clock _ _ _ _)
  | mbc2 m => cases h
  | mbc3 m =>
    refine ⟨m, rfl, ?_⟩
    by_contra out
    by_cases bank : m.ramRtcSel.toNat ≤ 3
    · rw [ramPlace_mbc3_bank n a m bank] at h
      exact bankPlace_ne_clock _ _ _ _ h
    · rw [ramPlace_mbc3_nothing n a m (by omega) (by omega)] at h
      cases h
  | mbc5 m => exact absurd h (bankPlace_ne_clock _ _ _ _)

/-- Away from the clock, `WriteRam` changes the stores alone, and those as it would with the latch set. -/
theorem cartStore_unguarded (a : Nat) (v : Byte) (s : State) (h : ∀ r, s.mapper.ramPlace s.cfg.ramSize a ≠ .clock r) :
    cartStore a v s = { s with mem := (cartStore a v (unguarded s)).mem } := by
  have same : (unguarded s).mapper.ramPlace (unguarded s).cfg.ramSize a = s.mapper.ramPlace s.cfg.ramSize a :=
    Mapper.ramPlace_opened s.mapper s.cfg.ramSize a
  cases place : s.mapper.ramPlace s.cfg.ramSize a with
  | cell i =>
    rw [cartStore_cell s a v place, cartStore_cell (unguarded s) a v (same.trans place)]
    rfl
  | nibble i =>
    rw [cartStore_nibble s a v place, cartStore_nibble (unguarded s) a v (same.trans place)]
    rfl
  | clock r => exact absurd place (h r)
  | nothing =>
    rw [cartStore_nothing s a v place, cartStore_nothing (unguarded s) a v (same.trans place)]
    rfl

/-- Away from the clock a raw write of cartridge RAM is the CPU's behind the guards (R74). -/
theorem rawWrite_cartRam_bytes (s : State) (a : Word) (v : Byte) (hg : Region.of a = .cartRam)
    (h : 0 < s.cfg.ramSize ∨ s.mapper.kind = .mbc2)
    (away : ∀ m, s.mapper = .mbc3 m → m.ramRtcSel.toNat < 8 ∨ 12 < m.ramRtcSel.toNat) :
    rawWrite a v s = { s with mem := (memWrite a v (unguarded s)).mem } := by
  have gate : (unguarded s).mapper.ramEnabled (unguarded s).cfg.ramSize = true :=
    ramEnabled_opened s.mapper s.cfg.ramSize (h.imp_right fun hk => by rw [hk]; exact nofun)
  rw [rawWrite_cartRam_present s a v hg h, memWrite_cartRam (unguarded s) a v hg, if_pos gate]
  refine cartStore_unguarded a.toNat v s fun r place => ?_
  obtain ⟨m, hm, h1, h2⟩ := selector_of_ramPlace_clock _ _ _ r place
  have := away m hm
  omega

/-- Behind a clock selector a raw write stores that clock register alone (log entry 10). -/
theorem rawWrite_cartRam_clock (s : State) (a : Word) (v : Byte) (hg : Region.of a = .cartRam) (hn : 0 < s.cfg.ramSize)
    (m : Mbc3) (hm : s.mapper = .mbc3 m) (h1 : 8 ≤ m.ramRtcSel.toNat) (h2 : m.ramRtcSel.toNat ≤ 12) :
    ∃ t : Rtc, t.bytes = m.rtc.bytes.set (m.ramRtcSel.toNat - 8) v ∧
      rawWrite a v s = { s with mapper := .mbc3 { m with rtc := t } } := by
  obtain ⟨r, hr, hi⟩ := exists_rtcReg_of_selector m.ramRtcSel h1 h2
  have place : s.mapper.ramPlace s.cfg.ramSize a.toNat = .clock r := by rw [hm, ramPlace_mbc3_clock _ _ _ _ hr]
  refine ⟨m.rtc.set r v, by rw [hi, rtc_bytes_set], ?_⟩
  rw [rawWrite_cartRam_present s a v hg (.inl hn), cartStore_clock s _ v place, hm]
  rfl

/-! ### Raw writes of registers -/

/-- The address of a register (R95). -/
def IoReg.port : IoReg → Nat
  | .joyp => 0xFF00 | .div => 0xFF04 | .tima => 0xFF05 | .tma => 0xFF06 | .tac => 0xFF07 | .ifReg => 0xFF0F
  | .lcdc => 0xFF40 | .stat => 0xFF41 | .scy => 0xFF42 | .scx => 0xFF43 | .ly => 0xFF44 | .lyc => 0xFF45 | .dma => 0xFF46
  | .bgp => 0xFF47 | .obp0 => 0xFF48 | .obp1 => 0xFF49 | .wy => 0xFF4A | .wx => 0xFF4B | .vbk => 0xFF4F
  | .bootOff => 0xFF50 | .bcps => 0xFF68 | .bcpd => 0xFF69 | .ocps => 0xFF6A | .ocpd => 0xFF6B | .svbk => 0xFF70

/-- Each register stands at one address. -/
theorem port_of_ofAddr {a : Word} {r : IoReg} (h : IoReg.ofAddr a = some r) : a.toNat = r.port := by
  unfold IoReg.ofAddr at h
  split at h <;> cases h <;> assumption

theorem rawWrite_ioReg (r : IoReg) (a : Word) (hg : Region.of a = .io) (ha : IoReg.ofAddr a = some r) (v : Byte) (s : State) :
    rawWrite a v s = ioRawWrite r v s := by
  simp only [rawWrite, hg, ha]

/-- The registers a raw write treats apart (R74, D21). -/
def IoReg.rawApart : IoReg → Bool
  | .div | .ly | .dma | .lcdc | .bcpd | .ocpd => true
  | _ => false

/-- Every other register takes a raw write as its trap does (R74). -/
theorem ioRawWrite_eq_ioWrite (r : IoReg) (h : r.rawApart = false) (v : Byte) (s : State) :
    ioRawWrite r v s = ioWrite r v s := by
  by_cases off : (r.cgbOnly && !s.cfg.cgb) = true
  · exact (if_pos off).trans (if_pos off).symm
  · refine (if_neg off).trans ?_
    cases r
    case div | ly | dma | lcdc | bcpd | ocpd => cases h
    all_goals rfl

/-- No write trap is a free moment. -/
theorem ioWrite_freeCount (r : IoReg) (v : Byte) (s : State) : (ioWrite r v s).freeCount = s.freeCount := by
  unfold ioWrite
  split
  · rfl
  · cases r
    case lcdc => exact writeLcdc_freeCount v s
    case dma => exact startDma_freeCount v s
    case bootOff => dsimp only; split <;> rfl
    all_goals rfl

theorem ioRawWrite_freeCount (r : IoReg) (v : Byte) (s : State) : (ioRawWrite r v s).freeCount = s.freeCount := by
  cases apart : r.rawApart with
  | false => rw [ioRawWrite_eq_ioWrite r apart, ioWrite_freeCount]
  | true =>
    unfold ioRawWrite
    split
    · rfl
    · cases r
      case div | ly | dma | lcdc | bcpd | ocpd => rfl
      all_goals cases apart

theorem cartStore_freeCount (a : Nat) (v : Byte) (s : State) : (cartStore a v s).freeCount = s.freeCount := by
  unfold cartStore
  split <;> rfl

/-- A raw write is no free moment. -/
theorem rawWrite_freeCount (a : Word) (v : Byte) (s : State) : (rawWrite a v s).freeCount = s.freeCount := by
  unfold rawWrite
  cases Region.of a <;> dsimp only
  case cartRam => split <;> [rfl; exact cartStore_freeCount _ _ _]
  case io => split <;> [exact ioRawWrite_freeCount _ _ _; rfl]
  all_goals rfl

/-- The data ports of the palettes store without stepping the index (R74, R107). -/
theorem rawWrite_paletteData (s : State) (v : Byte) :
    (s.cfg.cgb = true → rawWrite 0xFF69 v s = s.poke .bgPalRam s.cgb.bcps.index.toNat v ∧
      rawWrite 0xFF6B v s = s.poke .objPalRam s.cgb.ocps.index.toNat v) ∧
    (s.cfg.cgb = false → rawWrite 0xFF69 v s = s ∧ rawWrite 0xFF6B v s = s) := by
  rw [rawWrite_ioReg .bcpd 0xFF69 rfl rfl, rawWrite_ioReg .ocpd 0xFF6B rfl rfl]
  constructor <;> intro hc <;> simp [ioRawWrite, IoReg.cgbOnly, hc]

/-- Elsewhere in the I/O page, and at IE, a raw write is the CPU's (R74). -/
theorem rawWrite_eq_memWrite (s : State) (v : Byte) (a : Word) (ha : (0xFF00 ≤ a.toNat ∧ a.toNat < 0xFF80) ∨ a = 0xFFFF)
    (apart : a ∉ [0xFF04#16, 0xFF40, 0xFF44, 0xFF46, 0xFF69, 0xFF6B]) : rawWrite a v s = memWrite a v s := by
  obtain ⟨h1, h2⟩ | rfl := ha
  · have hg := region_io h1 h2
    cases hr : IoReg.ofAddr a with
    | none => simp only [rawWrite, memWrite, hg, hr]
    | some r =>
      rw [rawWrite_ioReg r a hg hr, memWrite_ioReg r a hg hr]
      refine ioRawWrite_eq_ioWrite r ?_ v s
      have address : a = BitVec.ofNat 16 r.port := BitVec.eq_of_toNat_eq (by rw [← port_of_ofAddr hr]; simp)
      rw [address] at apart
      revert apart
      cases r <;> decide
  · rfl

/-- Settles O23: raw reads by `unguarded`, raw writes by region, and register by register in the I/O page. -/
theorem hostMemoryAccess : Obligations.HostMemoryAccess := by
  refine ⟨fun s a v => ⟨rfl, ?read, ?write, ?rawWrite⟩, fun s a v => ⟨rawWrite_dropped s a v, fun hg hn hk => ?noRam,
    rawWrite_cartRam_bytes s a v, rawWrite_cartRam_clock s a v, rawWrite_plain s a v⟩, fun s v => ?registers⟩
  case read =>
    rw [← rawRead_eq_memRead_unguarded]
    rfl
  case write =>
    rw [← memWrite_freeCount a v s]
    rfl
  case rawWrite =>
    rw [← rawWrite_freeCount a v s]
    rfl
  case noRam =>
    rw [rawWrite_cartRam s a v hg]
    exact if_pos ⟨hn, hk⟩
  case registers =>
    obtain ⟨cgb, dmg⟩ := rawWrite_paletteData s v
    rw [rawWrite_ioReg .div 0xFF04 rfl rfl, rawWrite_ioReg .ly 0xFF44 rfl rfl, rawWrite_ioReg .dma 0xFF46 rfl rfl,
      rawWrite_ioReg .lcdc 0xFF40 rfl rfl]
    exact ⟨rfl, rfl, rfl, rfl, cgb, dmg, rawWrite_eq_memWrite s v⟩

end Sys2Proof.Machine

/-! ## Instructions and their bytes (O1 to O5): every place of the opcode map against the encoder -/

namespace Sys2Proof
open Machine

/-! ### Decoding an encoding -/

/-- What the decoder reads from a word operand's two bytes, it reads from the halves of any word. -/
theorem decode_word (op : Byte) (nn : Word) (rest : List Byte) (build : Word → Instr)
    (h : ∀ b1 b2, decode (op :: b1 :: b2 :: rest) = .ok (build (wordOf b2 b1), rest)) :
    decode (op :: loByte nn :: hiByte nn :: rest) = .ok (build nn, rest) := by
  rw [h, wordOf_hi_lo]

theorem wellFormed_illegal_iff {op : Byte} : (Instr.illegal op).WellFormed ↔ op ∈ illegalBytes :=
  List.contains_iff_mem

theorem decode_illegal {op : Byte} (h : op ∈ illegalBytes) (rest : List Byte) :
    decode (op :: rest) = .ok (.illegal op, rest) := by
  simp only [illegalBytes, List.mem_cons, List.not_mem_nil, or_false] at h
  obtain rfl | rfl | rfl | rfl | rfl | rfl | rfl | rfl | rfl | rfl | rfl := h <;> rfl

/-- Settles O3, by the operand: an illegal byte is one of eleven, a word comes back from its two halves, and every other
instruction's bytes hold its operand as it is. -/
theorem decodeOfEncode : Obligations.DecodeOfEncode := by
  intro i rest hi
  cases i with
  | illegal op => exact decode_illegal (wellFormed_illegal_iff.1 hi) rest
  | ldBCnn nn | ldDEnn nn | ldHLnn nn | ldSPnn nn | ldIndNnSP nn | ldIndNnA nn | ldAIndNn nn
  | jp nn | jpNZ nn | jpZ nn | jpNC nn | jpC nn | call nn | callNZ nn | callZ nn | callNC nn | callC nn =>
    exact decode_word _ nn rest _ fun _ _ => rfl
  | _ => rfl

/-! ### The operand bytes of a format -/

/-- The bytes after the opcode, for the immediates `n` and `nn` of R143; on the CB page `n` is the second opcode byte. -/
def Format.operands (f : Format) (n : Byte) (nn : Word) : List Byte :=
  match f with
  | .op => []
  | .opN | .opE | .cb => [n]
  | .opNn => [loByte nn, hiByte nn]

theorem Format.length_operands (f : Format) (n : Byte) (nn : Word) : (f.operands n nn).length + 1 = f.length := by
  cases f <;> rfl

theorem Format.length_bounds (f : Format) : 1 ≤ f.length ∧ f.length ≤ 3 := by
  cases f <;> decide

theorem loByte_wordOf (hi lo : Byte) : loByte (wordOf hi lo) = lo := by
  apply BitVec.eq_of_toNat_eq
  rw [loByte_toNat, wordOf_toNat]
  omega

theorem hiByte_wordOf (hi lo : Byte) : hiByte (wordOf hi lo) = hi := by
  apply BitVec.eq_of_toNat_eq
  rw [hiByte_toNat, wordOf_toNat]
  omega

/-- The bytes of a sequence of three that a format takes. -/
theorem Format.operands_append_drop (f : Format) (op b1 b2 : Byte) (rest : List Byte) :
    op :: f.operands b1 (wordOf b2 b1) ++ (op :: b1 :: b2 :: rest).drop f.length = op :: b1 :: b2 :: rest := by
  cases f <;> simp [Format.operands, Format.length, loByte_wordOf, hiByte_wordOf]

/-! ### The families of the regular blocks -/

/-- The instruction is well formed and these are its bytes. -/
structure Spells (i : Instr) (bytes : List Byte) : Prop where
  wellFormed : i.WellFormed
  encode : encode i = bytes

theorem spells_ldRegReg (dst src : R8) : Spells (.ldRegReg dst src) [opByte (0x40 + 8 * codeR8 dst + codeR8 src)] := by
  cases dst <;> cases src <;> exact ⟨rfl, rfl⟩
theorem spells_ldRegInd (r : R8) : Spells (.ldRegInd r) [opByte (0x40 + 8 * codeR8 r + 6)] := by
  cases r <;> exact ⟨rfl, rfl⟩
theorem spells_ldIndReg (r : R8) : Spells (.ldIndReg r) [opByte (0x70 + codeR8 r)] := by
  cases r <;> exact ⟨rfl, rfl⟩
theorem spells_aluReg (op : AluOp) (r : R8) : Spells (.aluReg op r) [opByte (0x80 + 8 * codeAlu op + codeR8 r)] := by
  cases op <;> cases r <;> exact ⟨rfl, rfl⟩
theorem spells_aluInd (op : AluOp) : Spells (.aluInd op) [opByte (0x80 + 8 * codeAlu op + 6)] := by
  cases op <;> exact ⟨rfl, rfl⟩
theorem spells_rotReg (op : RotOp) (r : R8) : Spells (.rotReg op r) [0xCB, opByte (0x00 + 8 * codeRot op + codeR8 r)] := by
  cases op <;> cases r <;> exact ⟨rfl, rfl⟩
theorem spells_rotInd (op : RotOp) : Spells (.rotInd op) [0xCB, opByte (0x00 + 8 * codeRot op + 6)] := by
  cases op <;> exact ⟨rfl, rfl⟩
theorem spells_bitReg (b : BitNum) (r : R8) : Spells (.bitReg b r) [0xCB, opByte (0x40 + 8 * b.toNat + codeR8 r)] := by
  cases b <;> cases r <;> exact ⟨rfl, rfl⟩
theorem spells_bitInd (b : BitNum) : Spells (.bitInd b) [0xCB, opByte (0x40 + 8 * b.toNat + 6)] := by
  cases b <;> exact ⟨rfl, rfl⟩
theorem spells_resReg (b : BitNum) (r : R8) : Spells (.resReg b r) [0xCB, opByte (0x80 + 8 * b.toNat + codeR8 r)] := by
  cases b <;> cases r <;> exact ⟨rfl, rfl⟩
theorem spells_resInd (b : BitNum) : Spells (.resInd b) [0xCB, opByte (0x80 + 8 * b.toNat + 6)] := by
  cases b <;> exact ⟨rfl, rfl⟩
theorem spells_setReg (b : BitNum) (r : R8) : Spells (.setReg b r) [0xCB, opByte (0xC0 + 8 * b.toNat + codeR8 r)] := by
  cases b <;> cases r <;> exact ⟨rfl, rfl⟩
theorem spells_setInd (b : BitNum) : Spells (.setInd b) [0xCB, opByte (0xC0 + 8 * b.toNat + 6)] := by
  cases b <;> exact ⟨rfl, rfl⟩

/-! ### The fields of a byte, and the operand tables read and written -/

theorem fieldX_lt (op : Byte) : fieldX op < 4 := by unfold fieldX; omega
theorem fieldY_lt (op : Byte) : fieldY op < 8 := by unfold fieldY; omega
theorem fieldZ_lt (op : Byte) : fieldZ op < 8 := by unfold fieldZ; omega

/-- A byte is its three fields (R141). -/
theorem opByte_fields (op : Byte) : opByte (64 * fieldX op + 8 * fieldY op + fieldZ op) = op := by
  have sum : 64 * fieldX op + 8 * fieldY op + fieldZ op = op.toNat := by unfold fieldX fieldY fieldZ; omega
  rw [sum]
  exact BitVec.eq_of_toNat_eq (by simp [opByte])

theorem R8.ofField_cases {k : Nat} (hk : k < 8) :
    (∃ r, R8.ofField k = some r ∧ codeR8 r = k) ∨ (R8.ofField k = none ∧ k = 6) := by
  revert k
  decide

theorem codeAlu_ofField {k : Nat} (hk : k < 8) : codeAlu (.ofField k) = k := by
  revert k
  decide

theorem codeRot_ofField {k : Nat} (hk : k < 8) : codeRot (.ofField k) = k := by
  revert k
  decide

theorem bitNum_toNat_ofField {k : Nat} (hk : k < 8) : (BitNum.ofField k).toNat = k := by
  revert k
  decide

/-! ### The blocks of the opcode map -/

/-- Block x = 0 (R150), place by place. -/
theorem spells_decodeBlock0 {y z : Nat} (hy : y < 8) (hz : z < 8) (b1 b2 : Byte) :
    Spells (decodeBlock0 y z b1 b2)
      (opByte (64 * 0 + 8 * y + z) :: (formatOf (opByte (64 * 0 + 8 * y + z))).operands b1 (wordOf b2 b1)) := by
  interval_cases z <;> interval_cases y <;> exact ⟨rfl, rfl⟩

/-- Block x = 1 (R151): the register loads, and HALT where both fields name `(HL)`. -/
theorem spells_decodeBlock1 {y z : Nat} (hy : y < 8) (hz : z < 8) :
    Spells (decodeBlock1 y z) [opByte (64 * 1 + 8 * y + z)] := by
  obtain ⟨dst, hdst, rfl⟩ | ⟨hdst, rfl⟩ := R8.ofField_cases hy <;>
  obtain ⟨src, hsrc, rfl⟩ | ⟨hsrc, rfl⟩ := R8.ofField_cases hz <;>
  simp only [decodeBlock1, hdst, hsrc]
  · exact spells_ldRegReg dst src
  · exact spells_ldRegInd dst
  · exact spells_ldIndReg src
  · exact ⟨rfl, rfl⟩

/-- Block x = 2 (R152). -/
theorem spells_decodeBlock2 {y z : Nat} (hy : y < 8) (hz : z < 8) :
    Spells (decodeBlock2 y z) [opByte (64 * 2 + 8 * y + z)] := by
  have hop := codeAlu_ofField hy
  obtain ⟨r, hr, rfl⟩ | ⟨hr, rfl⟩ := R8.ofField_cases hz <;> simp only [decodeBlock2, hr]
  · simpa only [hop] using spells_aluReg (.ofField y) r
  · simpa only [hop] using spells_aluInd (.ofField y)

/-- The CB page (R154): four blocks, each on a register or on `(HL)`. -/
theorem spells_decodeCb (op2 : Byte) : Spells (decodeCb op2) [0xCB, op2] := by
  have hrot := codeRot_ofField (fieldY_lt op2)
  have hbit := bitNum_toNat_ofField (fieldY_lt op2)
  have hx := fieldX_lt op2
  rw [show [0xCB, op2] = [0xCB, opByte (64 * fieldX op2 + 8 * fieldY op2 + fieldZ op2)] by rw [opByte_fields]]
  unfold decodeCb
  obtain ⟨r, hr, hz⟩ | ⟨hr, hz⟩ := R8.ofField_cases (fieldZ_lt op2)
  · rw [hr, ← hz]
    interval_cases fieldX op2
    · simpa only [hrot] using spells_rotReg (.ofField (fieldY op2)) r
    · simpa only [hbit] using spells_bitReg (.ofField (fieldY op2)) r
    · simpa only [hbit] using spells_resReg (.ofField (fieldY op2)) r
    · simpa only [hbit] using spells_setReg (.ofField (fieldY op2)) r
  · rw [hr, hz]
    interval_cases fieldX op2
    · simpa only [hrot] using spells_rotInd (.ofField (fieldY op2))
    · simpa only [hbit] using spells_bitInd (.ofField (fieldY op2))
    · simpa only [hbit] using spells_resInd (.ofField (fieldY op2))
    · simpa only [hbit] using spells_setInd (.ofField (fieldY op2))

/-- Block x = 3 (R153), place by place; `0xCB` opens the CB page. -/
theorem spells_decodeBlock3 {y z : Nat} (hy : y < 8) (hz : z < 8) (b1 b2 : Byte) :
    Spells (decodeBlock3 (opByte (64 * 3 + 8 * y + z)) y z b1 b2)
      (opByte (64 * 3 + 8 * y + z) :: (formatOf (opByte (64 * 3 + 8 * y + z))).operands b1 (wordOf b2 b1)) := by
  obtain left | rfl | right := lt_trichotomy z 3
  · interval_cases z <;> interval_cases y <;> exact ⟨rfl, rfl⟩
  · obtain above | rfl | below := lt_trichotomy y 1
    · interval_cases y
      exact ⟨rfl, rfl⟩
    · exact spells_decodeCb b1
    · interval_cases y <;> exact ⟨rfl, rfl⟩
  · interval_cases z <;> interval_cases y <;> exact ⟨rfl, rfl⟩

/-- In the two regular blocks the opcode is the whole instruction. -/
theorem formatOf_regular {op : Byte} (hx : fieldX op = 1 ∨ fieldX op = 2) : formatOf op = .op := by
  obtain hx | hx := hx <;> simp only [formatOf, hx]

/-- What the decoder reads is well formed and has the opcode's format and bytes, at every place of the map. -/
theorem spells_decode3 (op b1 b2 : Byte) :
    Spells (decode3 op b1 b2) (op :: (formatOf op).operands b1 (wordOf b2 b1)) := by
  have fields := opByte_fields op
  have hy := fieldY_lt op
  have hz := fieldZ_lt op
  have blocks : fieldX op = 0 ∨ fieldX op = 1 ∨ fieldX op = 2 ∨ fieldX op = 3 := by
    have := fieldX_lt op
    omega
  obtain hx | hx | hx | hx := blocks <;> rw [hx] at fields
  · simpa only [decode3, hx, fields] using spells_decodeBlock0 hy hz b1 b2
  · simpa only [decode3, hx, fields, formatOf_regular (.inl hx), Format.operands] using spells_decodeBlock1 hy hz
  · simpa only [decode3, hx, fields, formatOf_regular (.inr hx), Format.operands] using spells_decodeBlock2 hy hz
  · simpa only [decode3, hx, fields] using spells_decodeBlock3 hy hz b1 b2

/-! ### What the decoder takes -/

/-- The decoder answers what `decode3` reads, and takes the opcode and the operand bytes of its format. -/
theorem decode3_of_decode {bytes rest : List Byte} {i : Instr} (h : decode bytes = .ok (i, rest)) :
    ∃ op b1 b2, i = decode3 op b1 b2 ∧ bytes = op :: (formatOf op).operands b1 (wordOf b2 b1) ++ rest := by
  cases bytes with
  | nil => cases h
  | cons op bytes =>
    cases hf : formatOf op <;> simp only [decode, hf, Format.length] at h
    case op =>
      cases h
      exact ⟨op, 0, 0, rfl, by rw [hf]; rfl⟩
    case opNn =>
      match bytes, h with
      | b1 :: b2 :: _, rfl =>
        exact ⟨op, b1, b2, rfl, by rw [hf, Format.operands, loByte_wordOf, hiByte_wordOf]; rfl⟩
    all_goals
      match bytes, h with
      | b1 :: _, rfl => exact ⟨op, b1, 0, rfl, by rw [hf]; rfl⟩

/-- Settles O4: what the decoder reads spells what it took. -/
theorem encodeOfDecode : Obligations.EncodeOfDecode := by
  intro bytes rest i h
  obtain ⟨op, b1, b2, rfl, rfl⟩ := decode3_of_decode h
  have spelt := spells_decode3 op b1 b2
  exact ⟨spelt.wellFormed, by rw [spelt.encode]⟩

/-- The first byte fixes the length (R140). -/
theorem length_of_decode {op : Byte} {bytes rest : List Byte} {i : Instr} (h : decode (op :: bytes) = .ok (i, rest)) :
    i.length = (formatOf op).length := by
  obtain ⟨_, b1, b2, rfl, he⟩ := decode3_of_decode h
  cases (List.cons.inj he).1
  rw [Instr.length, (spells_decode3 op b1 b2).encode, List.length_cons, Format.length_operands]

/-- Three bytes are enough for any format, and bytes past it play no part (R140, R144). -/
theorem decode_three (op b1 b2 : Byte) (rest : List Byte) :
    decode (op :: b1 :: b2 :: rest) = .ok (decode3 op b1 b2, (op :: b1 :: b2 :: rest).drop (formatOf op).length) := by
  have spelt := spells_decode3 op b1 b2
  have back := decodeOfEncode _ ((op :: b1 :: b2 :: rest).drop (formatOf op).length) spelt.wellFormed
  rwa [spelt.encode, Format.operands_append_drop] at back

/-- Settles O2: three bytes always decode, and the first byte's format gives the length. -/
theorem decoderIsTotal : Obligations.DecoderIsTotal := by
  intro op b1 b2 rest
  have h := decode_three op b1 b2 rest
  obtain ⟨pos, le⟩ := (formatOf op).length_bounds
  have cb : op = 0xCB → (formatOf op).length = 2 := by
    rintro rfl
    rfl
  exact ⟨_, _, h, (spells_decode3 op b1 b2).wellFormed, length_of_decode h, pos, le, cb, fun _ _ _ _ => length_of_decode⟩

/-! ### The illegal bytes -/

theorem mem_illegalBytes_of_decode {op b : Byte} {bytes rest : List Byte}
    (h : decode (op :: bytes) = .ok (.illegal b, rest)) : op ∈ illegalBytes := by
  obtain ⟨wellFormed, taken⟩ := encodeOfDecode _ _ _ h
  have hb : b = op := (List.cons.inj taken).1
  exact hb ▸ wellFormed_illegal_iff.1 wellFormed

/-- Settles O5: an illegal instruction encodes as its byte alone, so neither another first byte nor the CB page gives one. -/
theorem illegalEncodings : Obligations.IllegalEncodings := by
  refine ⟨fun op rest tail i h => ⟨?only, fun hop => ?each⟩, fun op rest hop => ⟨decode_illegal hop rest, fun _ => rfl⟩,
    fun op2 rest => ⟨decodeCb op2, rfl, ?cb⟩, rfl⟩
  case only =>
    rintro ⟨b, rfl⟩
    exact mem_illegalBytes_of_decode h
  case each =>
    rw [decode_illegal hop] at h
    cases h
    exact ⟨op, rfl⟩
  case cb =>
    intro b hb
    have twoBytes := (spells_decodeCb op2).encode
    rw [hb] at twoBytes
    cases twoBytes

/-- Settles O1, by running the decoder on each word. -/
theorem decodesWrittenWords : Obligations.DecodesWrittenWords :=
  ⟨rfl, rfl, rfl, rfl, rfl, rfl, rfl, rfl, rfl, rfl, rfl, rfl, rfl, rfl, rfl, rfl, rfl, rfl, rfl, rfl, rfl⟩

end Sys2Proof

/-! ## A step around its instruction (O34): the interrupt check, the fetch, the EI latch and the devices -/

namespace Sys2Proof.Machine

/-- A machine that is not halted and has nothing to take passes the interrupt check unchanged (R361, R363). -/
theorem serviceInterrupts_none (s : State) (hh : s.cpu.halted = false) (hi : s.cpu.ime = false ∨ pendingBits s = 0) :
    serviceInterrupts s = (s, 0) := by
  have awake : wakeHalt s = s := by simp [wakeHalt, hh]
  unfold serviceInterrupts
  dsimp only
  rw [awake]
  split
  · next i source =>
    have off : s.cpu.ime = false := hi.resolve_right fun none => by simp [none, lowestSource] at source
    simp [off]
  · rfl

/-- A step that runs an instruction and dispatches nothing bills the instruction's cycles (R400). -/
theorem coreStep_of_runInstr (s v : State) (hc : s.cpu.crashed = false) (hs : s.cpu.stopped = false)
    (hh : s.cpu.halted = false) (hi : s.cpu.ime = false ∨ pendingBits s = 0) (hv : runInstr s = .next v) :
    coreStep s = .next (endStep (instrCycles s) v, instrCycles s) := by
  simp [coreStep, hc, hs, hh, serviceInterrupts_none s hh hi, hv]

/-- The instruction the bytes at PC decode to is the one fetched, and PC ends past its bytes (R144). -/
theorem fetch_of_decode {s : State} {i : Instr} {rest : List Byte}
    (h : decode [opcodeByte s, memRead .operand1 (operandAddr s) s, memRead .operand2 (operandAddr s + 1) s] = .ok (i, rest)) :
    fetchedInstr s = i ∧ afterFetch s = (s.setPc (operandAddr s + BitVec.ofNat 16 (i.length - 1))).setHaltBug false := by
  have fetched := (decode_three _ _ _ []).symm.trans h
  exact ⟨congrArg Prod.fst (Except.ok.inj fetched), by rw [afterFetch, length_of_decode h]⟩

theorem setHaltBug_of_eq (s : State) {b : Bool} (h : s.cpu.haltBug = b) : s.setHaltBug b = s := by
  rw [← h]
  rfl

theorem add_one_add_ofNat_pred (a : Word) {n : Nat} (h : 1 ≤ n) : a + 1 + BitVec.ofNat 16 (n - 1) = a + BitVec.ofNat 16 n := by
  rw [BitVec.add_assoc, show (1 : Word) = BitVec.ofNat 16 1 from rfl, ← BitVec.ofNat_add, Nat.add_sub_cancel' h]

/-- Without the HALT bug, PC moves by the instruction's length (R24). -/
theorem fetch_of_decode_at_pc {s : State} {i : Instr} {rest : List Byte} (hb : s.cpu.haltBug = false)
    (h : decode [memRead .opcode s.cpu.pc s, memRead .operand1 (s.cpu.pc + 1) s, memRead .operand2 (s.cpu.pc + 2) s] =
      .ok (i, rest)) :
    fetchedInstr s = i ∧ afterFetch s = s.setPc (s.cpu.pc + BitVec.ofNat 16 i.length) := by
  have next : operandAddr s = s.cpu.pc + 1 := by simp [operandAddr, hb]
  have after : operandAddr s + 1 = s.cpu.pc + 2 := by rw [next, BitVec.add_assoc]; rfl
  have pos : 1 ≤ i.length := by rw [length_of_decode h]; exact (Format.length_bounds _).1
  rw [← next, ← after] at h
  obtain ⟨fetched, moved⟩ := fetch_of_decode h
  refine ⟨fetched, ?_⟩
  rw [moved, next, add_one_add_ofNat_pred _ pos]
  exact setHaltBug_of_eq _ hb

/-- Settles O34: the fetched instruction is the decoded one, and `coreStep` and `endStep` are as R400 lists them. -/
theorem stepRunsDecodedInstruction : Obligations.StepRunsDecodedInstruction := by
  refine ⟨?run, fun n s hn => ?ticks, fun s => rfl⟩
  case run =>
    intro s i rest t hc hs hh hb hi hd started he n u
    obtain ⟨fetched, after⟩ := fetch_of_decode_at_pc hb hd
    have ran : runInstr s = .next (consumeEi s.cpu.eiPending t) := by rw [runInstr, fetched, after, he]
    have core := coreStep_of_runInstr s _ hc hs hh hi ran
    rw [instrCycles, fetched, after] at core
    exact ⟨by rw [step, core], core⟩
  case ticks =>
    have ticked : tick n s = ppuTick n (timerTick n (dmaTick n s)) := if_neg hn.ne'
    rw [endStep, nextMoment, (deviceFrame_tick n s).freeCount, ticked]

end Sys2Proof.Machine

/-! ## The 8-bit loads (O6 to O10): one register written, or one bus write, and what each leaves alone -/

namespace Sys2Proof.Machine

/-! ### Bytes and cost of an unconditional form -/

/-- An unconditional instruction of the primary page, with what it does. Its bytes, page, kind and cost are read off the
instruction where they compute. -/
theorem primary_form {i : Instr} {op : Byte} {rest : List Byte} {n : Nat} {acts : Prop} (does : acts)
    (bytes : encode i = op :: rest := by rfl) (page : op ≠ 0xCB := by decide) (plain : condOf i = none := by rfl)
    (legal : ∀ b, i ≠ .illegal b := by nofun) (cost : (primaryCost op).1 = n := by rfl) :
    encode i = op :: rest ∧ Costs i n ∧ acts :=
  ⟨bytes, costs_primary i op rest n bytes page plain legal cost, does⟩

/-! ### Frames, one after the other -/

theorem KeepsCpu.trans {rs qs : List R8} {s t u : State} (h : KeepsCpu rs s t) (g : KeepsCpu qs t u) :
    KeepsCpu (rs ++ qs) s u := by
  obtain ⟨regs, sp, pc, ime, halted, stopped, eiPending, haltBug, crashed⟩ := h
  obtain ⟨regs', sp', pc', ime', halted', stopped', eiPending', haltBug', crashed'⟩ := g
  refine ⟨fun r hr => ?_, sp'.trans sp, pc'.trans pc, ime'.trans ime, halted'.trans halted, stopped'.trans stopped,
    eiPending'.trans eiPending, haltBug'.trans haltBug, crashed'.trans crashed⟩
  obtain ⟨outside, outside'⟩ := not_or.1 (mt List.mem_append.2 hr)
  exact (regs' r outside').trans (regs r outside)

theorem KeepsRest.trans {s t u : State} (h : KeepsRest s t) (g : KeepsRest t u) : KeepsRest s u := by
  obtain ⟨cpuOnly, reads⟩ := h
  obtain ⟨cpuOnly', reads'⟩ := g
  refine ⟨?_, fun port a => (reads' port a).trans (reads port a)⟩
  rw [cpuOnly', cpuOnly]

theorem OnlyRegs.trans {rs qs : List R8} {s t u : State} (h : OnlyRegs rs s t) (g : OnlyRegs qs t u) :
    OnlyRegs (rs ++ qs) s u := by
  obtain ⟨cpu, rest⟩ := h
  obtain ⟨cpu', rest'⟩ := g
  exact ⟨cpu.trans cpu', rest.trans rest'⟩

theorem OnlyRegs.reg_eq {rs : List R8} {s t : State} (h : OnlyRegs rs s t) {r : R8} (outside : r ∉ rs) :
    t.reg r = s.reg r := by
  obtain ⟨⟨regs, -⟩, -⟩ := h
  exact regs r outside

theorem onlyRegs_setPair_hl (s : State) (w : Word) : OnlyRegs [.h, .l] s (s.setPair .hl w) := by
  obtain ⟨⟨regs, sp, pc, latches, rest⟩, -⟩ := onlyPair_setPair s .hl w
  exact ⟨⟨regs, sp nofun, pc, latches⟩, rest⟩

theorem setPair_f (s : State) (p : R16) (w : Word) : (s.setPair p w).cpu.f = s.cpu.f := (onlyPair_setPair s p w).2

/-! ### The four shapes of an 8-bit load -/

/-- A load that writes one register. -/
theorem loads_of_exec_setReg {i : Instr} {s : State} {r : R8} {v : Byte} (h : exec i s = .next (s.setReg r v)) :
    ∃ t, exec i s = .next t ∧ t.reg r = v ∧ OnlyRegs [r] s t ∧ KeepsF s t :=
  ⟨_, h, reg_setReg_same s r v, onlyRegs_setReg s r v, setReg_f s r v⟩

/-- A store that makes one bus write. -/
theorem stores_of_exec_memWrite {i : Instr} {s : State} {a : Word} {v : Byte} (h : exec i s = .next (memWrite a v s)) :
    ∃ t, exec i s = .next t ∧ StoresByte a v s t ∧ KeepsCpu [] s t ∧ KeepsF s t :=
  ⟨_, h, storesByte_memWrite a v s _, keepsCpu_memWrite a v s, congrArg Cpu.f (memWrite_cpu a v s)⟩

/-- A load of A that then moves HL. -/
theorem loads_of_exec_setReg_setPair {i : Instr} {s : State} {v : Byte} {w : Word} {hl : Nat}
    (h : exec i s = .next ((s.setReg .a v).setPair .hl w)) (moved : w.toNat = hl) :
    ∃ t, exec i s = .next t ∧ t.reg .a = v ∧ (t.pair .hl).toNat = hl ∧ OnlyRegs [.a, .h, .l] s t ∧ KeepsF s t := by
  have stepped := onlyRegs_setPair_hl (s.setReg .a v) w
  refine ⟨_, h, ?a, ?hl, (onlyRegs_setReg s .a v).trans stepped, (setPair_f _ _ _).trans (setReg_f s .a v)⟩
  case a => exact (stepped.reg_eq (by decide)).trans (reg_setReg_same s .a v)
  case hl => rw [pair_setPair, moved]

/-- A store that then moves HL. -/
theorem stores_of_exec_memWrite_setPair {i : Instr} {s : State} {a : Word} {v : Byte} {w : Word} {hl : Nat}
    (h : exec i s = .next ((memWrite a v s).setPair .hl w)) (moved : w.toNat = hl) :
    ∃ t, exec i s = .next t ∧ StoresByte a v s t ∧ (t.pair .hl).toNat = hl ∧ KeepsCpu [.h, .l] s t ∧ KeepsF s t := by
  obtain ⟨stepped, -⟩ := onlyRegs_setPair_hl (memWrite a v s) w
  refine ⟨_, h, storesByte_memWrite a v s _, ?hl, (keepsCpu_memWrite a v s).trans stepped, ?f⟩
  case hl => rw [pair_setPair, moved]
  case f => rw [KeepsF, setPair_f, memWrite_cpu]

/-! ### MBC5's low bank latch -/

/-- A bus write to 0x2000 sets MBC5's low eight bank bits (R128). -/
theorem memWrite_mbc5_lowBank (s : State) (m : Mbc5) (hm : s.mapper = .mbc5 m) (v : Byte) :
    ∃ n, (memWrite 0x2000 v s).mapper = .mbc5 n ∧ n.romBank.extractLsb' 0 8 = v := by
  rw [memWrite_control s _ v (by decide), hm]
  refine ⟨_, rfl, ?_⟩
  rw [mbc5_control, if_neg (by decide), if_pos (by decide)]
  apply BitVec.eq_of_toNat_eq
  rw [BitVec.extractLsb'_toNat, BitVec.toNat_ofNat, Nat.shiftRight_zero]
  omega

/-! ### The forms -/

/-- Settles O6: each form writes one register, with the value its operand names. -/
theorem loadRegisterForms : Obligations.LoadRegisterForms := by
  refine ⟨fun dst src s => ?reg, fun dst n s => ?imm, fun dst s => ?ind⟩
  case reg =>
    have loads := loads_of_exec_setReg (exec_ldRegReg dst src s)
    cases dst <;> cases src <;> exact primary_form loads
  case imm =>
    have loads := loads_of_exec_setReg (exec_ldRegN dst n s)
    cases dst <;> exact primary_form loads
  case ind =>
    have loads := loads_of_exec_setReg (exec_ldRegInd dst s)
    cases dst <;> exact primary_form loads

/-- Settles O7: each form is one bus write at HL. -/
theorem storeRegisterForms : Obligations.StoreRegisterForms := by
  refine ⟨fun src s => ?reg, fun n s => primary_form (stores_of_exec_memWrite rfl)⟩
  case reg =>
    have stores := stores_of_exec_memWrite (exec_ldIndReg src s)
    cases src <;> exact primary_form stores

/-- Settles O8: each form writes A alone; an LDH form's address is in the high page. -/
theorem loadAFromMemory : Obligations.LoadAFromMemory := by
  intro nn n s loads
  rw [← highPage_eq, ← highPage_eq, wordBytes_eq]
  exact ⟨primary_form (loads_of_exec_setReg rfl), primary_form (loads_of_exec_setReg rfl),
    primary_form (loads_of_exec_setReg rfl), primary_form (loads_of_exec_setReg rfl),
    primary_form (loads_of_exec_setReg rfl)⟩

/-- Settles O9: each form is one bus write of A, at 0x2000 a write of MBC5's low bank latch. -/
theorem storeAToMemory : Obligations.StoreAToMemory := by
  refine ⟨?forms, fun s m hm => ?mbc5⟩
  case forms =>
    intro nn n s stores
    rw [← highPage_eq, ← highPage_eq, wordBytes_eq]
    exact ⟨primary_form (stores_of_exec_memWrite rfl), primary_form (stores_of_exec_memWrite rfl),
      primary_form (stores_of_exec_memWrite rfl), primary_form (stores_of_exec_memWrite rfl),
      primary_form (stores_of_exec_memWrite rfl)⟩
  case mbc5 =>
    obtain ⟨n, banked, low⟩ := memWrite_mbc5_lowBank s m hm (s.reg .a)
    exact ⟨_, n, rfl, banked, low⟩

/-- Settles O10: the byte moves at the old HL, then the pair HL is written one up or one down. -/
theorem hlStepForms : Obligations.HlStepForms := by
  intro s up down loads stores
  have hup : (hlAddr s + 1).toNat = up := BitVec.toNat_add ..
  have hdown : (hlAddr s - 1).toNat = down := by
    rw [BitVec.toNat_sub, Nat.add_comm]
    rfl
  exact ⟨primary_form (loads_of_exec_setReg_setPair rfl hup), primary_form (loads_of_exec_setReg_setPair rfl hdown),
    primary_form (stores_of_exec_memWrite_setPair rfl hup), primary_form (stores_of_exec_memWrite_setPair rfl hdown)⟩

end Sys2Proof.Machine

/-! ## The 16-bit loads (O11 to O14): a pair written, SP stored or moved, and the stack's two transfers -/

namespace Sys2Proof.Machine

/-! ### Bytes and cost of the forms with a pair in the opcode -/

theorem ldPairNn_form {acts : Prop} (p : R16) (nn : Word) (does : acts) :
    encode (.ldPairNn p nn) = opByte (0x01 + 16 * codeR16 p) :: wordBytes nn ∧ Costs (.ldPairNn p nn) 12 ∧ acts := by
  rw [wordBytes_eq]
  cases p <;> exact primary_form does

theorem pushStk_form {acts : Prop} (p : R16Stk) (does : acts) :
    encode (.pushStk p) = [opByte (0xC5 + 16 * codeStk p)] ∧ Costs (.pushStk p) 16 ∧ acts := by
  cases p <;> exact primary_form does

theorem popStk_form {acts : Prop} (p : R16Stk) (does : acts) :
    encode (.popStk p) = [opByte (0xC1 + 16 * codeStk p)] ∧ Costs (.popStk p) 12 ∧ acts := by
  cases p <;> exact primary_form does

/-! ### Writing a pair -/

/-- A pair that is not SP is made of 8-bit registers. -/
theorem onlyRegs_setPair {p : R16} (hp : p ≠ .sp) (s : State) (w : Word) :
    OnlyRegs (pairRegs p) s (s.setPair p w) := by
  obtain ⟨⟨regs, sp, pc, latches, rest⟩, -⟩ := onlyPair_setPair s p w
  exact ⟨⟨regs, sp hp, pc, latches⟩, rest⟩

theorem onlyRegs_setStkPair (s : State) (p : R16Stk) (w : Word) : OnlyRegs (stkRegs p) s (s.setStkPair p w) := by
  cases p with
  | bc => exact onlyRegs_setPair (p := .bc) nofun s w
  | de => exact onlyRegs_setPair (p := .de) nofun s w
  | hl => exact onlyRegs_setPair (p := .hl) nofun s w
  | af => exact onlyRegs_setReg_setF s .a (hiByte w) (loByte w &&& 0xF0)

/-- A pair other than AF takes the whole word, and F is no part of it. -/
theorem stkPair_setStkPair {p : R16Stk} (hp : p ≠ .af) (s : State) (w : Word) :
    (s.setStkPair p w).stkPair p = w ∧ KeepsF s (s.setStkPair p w) := by
  cases p with
  | bc => exact ⟨pair_setPair s .bc w, setPair_f s .bc w⟩
  | de => exact ⟨pair_setPair s .de w, setPair_f s .de w⟩
  | hl => exact ⟨pair_setPair s .hl w, setPair_f s .hl w⟩
  | af => exact absurd rfl hp

/-- A word's low byte, written to F without its low nibble, gives the four flags (R207). -/
theorem flagsAre_setF_masked (s : State) (w : Word) :
    FlagsAre (w.getLsbD 7 = true) (w.getLsbD 6 = true) (w.getLsbD 5 = true) (w.getLsbD 4 = true)
      (s.setF (loByte w &&& 0xF0)) := by
  have masked (b : Byte) : b &&& 0xF0 = flagsByte (b.getLsbD 7) (b.getLsbD 6) (b.getLsbD 5) (b.getLsbD 4) := by
    revert b; decide
  rw [masked]
  apply flagsAre_setF <;> simp [loByte]

/-! ### The stack -/

/-- Outside SP, a push leaves the CPU alone. -/
theorem push16_keeps (w : Word) (s : State) :
    KeepsRegs [] s (push16 w s) ∧ KeepsF s (push16 w s) ∧ KeepsPc s (push16 w s) ∧ KeepsLatches s (push16 w s) := by
  rw [push16_eq]
  exact ⟨fun r _ => setSp_reg s _ r, rfl, rfl, rfl, rfl, rfl, rfl, rfl, rfl⟩

/-- What POP leaves alone, and where SP ends: the move of SP, then the write of the pair. -/
theorem popPair_frame (p : R16Stk) (s : State) :
    (popPair p s).cpu.sp = s.cpu.sp + 2 ∧ KeepsRegs (stkRegs p) s (popPair p s) ∧ KeepsPc s (popPair p s) ∧
      KeepsLatches s (popPair p s) ∧ KeepsRest s (popPair p s) := by
  obtain ⟨⟨regs, sp, pc, latches⟩, rest⟩ := onlyRegs_setStkPair (afterPop s) p (popValue s)
  have moved : KeepsRest s (afterPop s) := keepsRest_of_cpu _ _ rfl
  exact ⟨sp, fun r hr => (regs r hr).trans (setSp_reg s _ r), pc, latches, moved.trans rest⟩

/-! ### The forms -/

/-- Settles O11: the pair is written, and the frame of that write is the instruction's. -/
theorem loadPairImmediate : Obligations.LoadPairImmediate := fun p nn s =>
  ldPairNn_form p nn ⟨_, exec_ldPairNn p nn s, pair_setPair s p nn, onlyPair_setPair s p nn⟩

/-- Settles O12: two bus writes of SP's bytes; a write of SP; a write of HL and of F. -/
theorem spTransfers : Obligations.SpTransfers := by
  refine ⟨fun nn s => ?store, fun s => ?move, fun e s => ?offset⟩
  case store =>
    rw [wordBytes_eq, opByte_lo, opByte_hi]
    refine primary_form ⟨storeSp nn s, rfl, rfl, ?cpu, keepsCells_twoWrites nn (nn + 1) _ _ s _⟩
    case cpu => rw [storeSp, memWrite_cpu, memWrite_cpu]
  case move => exact primary_form ⟨_, rfl, rfl, onlyPair_setPair s .sp (s.pair .hl)⟩
  case offset =>
    refine primary_form ⟨loadHLSp e s, rfl, ?sum, ?flags, onlyRegs_setPair_hl_setF s _ _⟩
    case sum =>
      calc ((loadHLSp e s).pair .hl).toNat
        _ = (s.cpu.sp + displacement e).toNat := congrArg BitVec.toNat (pair_setPair s .hl _)
        _ = _ := displacement_add_toNat s.cpu.sp e
    case flags => apply flagsAre_setF <;> simp

/-- Settles O13: PUSH is `Push16` of the pair; AF as a word is A above F. -/
theorem pushPair_pushesWord : Obligations.PushPair := by
  intro p s
  obtain ⟨regs, f, pc, latches⟩ := push16_keeps (s.stkPair p) s
  exact pushStk_form p ⟨_, exec_pushStk p s, pushesWord_push16 _ s, regs, f, pc, latches, wordOf_toNat s.cpu.a s.cpu.f⟩

/-- Settles O14: the word on top goes to the pair; for AF its high byte to A and its bits 7 to 4 to the flags. -/
theorem popPair_takesTopOfStack : Obligations.PopPair := by
  intro p s w top
  obtain ⟨sp, frame⟩ := popPair_frame p s
  obtain rfl := popValue_of_top s w top
  refine popStk_form p ⟨_, exec_popStk p s, ?sp, fun hp => stkPair_setStkPair hp (afterPop s) _, ?af, frame⟩
  case sp =>
    rw [sp, BitVec.toNat_add]
    rfl
  case af =>
    rintro rfl
    exact ⟨hiByte_toNat _, flagsAre_setF_masked _ _⟩

end Sys2Proof.Machine

/-! ## The 8-bit arithmetic and logic (O15 to O21): one result with its flags, written to A, to a register or at HL -/

namespace Sys2Proof.Machine

/-! ### Bytes, cost and meaning of the forms with an operand in the opcode -/

theorem aluForm_form {acts : Prop} (op : AluOp) (form : AluForm) (does : acts) :
    encode (form.instr op) = form.bytes op ∧ Costs (form.instr op) form.cost ∧ acts := by
  cases form with
  | reg r => cases op <;> cases r <;> exact primary_form does
  | ind => cases op <;> exact primary_form does
  | imm n => cases op <;> exact primary_form does

theorem incReg_form {acts : Prop} (r : R8) (does : acts) :
    encode (.incReg r) = [opByte (0x04 + 8 * codeR8 r)] ∧ Costs (.incReg r) 4 ∧ acts := by
  cases r <;> exact primary_form does

theorem decReg_form {acts : Prop} (r : R8) (does : acts) :
    encode (.decReg r) = [opByte (0x05 + 8 * codeR8 r)] ∧ Costs (.decReg r) 4 ∧ acts := by
  cases r <;> exact primary_form does

/-- Every form of an accumulator operation applies it to the operand the form reads. -/
theorem exec_aluForm (op : AluOp) (form : AluForm) (s : State) :
    exec (form.instr op) s = .next (aluApply op (form.operand s) s) := by
  cases form with
  | reg r => exact exec_aluReg op r s
  | ind => exact exec_aluInd op s
  | imm n => exact exec_aluN op n s

/-! ### The flags of each kind of result, on numbers (R215) -/

/-- Z of a result says whether its number is 0; the other three flags are the result's own. -/
theorem flagsAre_setAluFlags {r : Alu8} {v : Nat} {N H C : Prop} (value : r.value.toNat = v) (hn : r.n = true ↔ N)
    (hh : r.h = true ↔ H) (hc : r.c = true ↔ C) (s : State) (hz : r.z = (r.value == 0) := by rfl) :
    FlagsAre (v = 0) N H C (setAluFlags r s) :=
  flagsAre_setF r.z r.n r.h r.c (v = 0) N H C (hz ▸ beq_zero_iff_toNat r.value v value) hn hh hc s

theorem flagsAre_add8 (a b : Byte) (c : Bool) (s : State) :
    FlagsAre ((a.toNat + b.toNat + c.toNat) % 256 = 0) False (0xF < a.toNat % 16 + b.toNat % 16 + c.toNat)
      (0xFF < a.toNat + b.toNat + c.toNat) (setAluFlags (add8 a b c) s) :=
  flagsAre_setAluFlags (add8_toNat a b c) Bool.false_eq_true.to_iff decide_eq_true_iff decide_eq_true_iff s

theorem flagsAre_sub8 (a b : Byte) (c : Bool) (s : State) :
    FlagsAre ((a.toNat + 512 - b.toNat - c.toNat) % 256 = 0) True (a.toNat % 16 < b.toNat % 16 + c.toNat)
      (a.toNat < b.toNat + c.toNat) (setAluFlags (sub8 a b c) s) :=
  flagsAre_setAluFlags (sub8_toNat a b c) (iff_true_intro rfl) decide_eq_true_iff decide_eq_true_iff s

theorem flagsAre_logic8 (r : Byte) (h : Bool) (s : State) :
    FlagsAre (r.toNat = 0) False (h = true) False (setAluFlags (logic8 r h) s) :=
  flagsAre_setAluFlags rfl Bool.false_eq_true.to_iff Iff.rfl Bool.false_eq_true.to_iff s

theorem flagsAre_inc8 (a : Byte) (c : Bool) (s : State) :
    FlagsAre ((a.toNat + 1) % 256 = 0) False (a.toNat % 16 = 15) (c = true) (setAluFlags (inc8 a c) s) :=
  flagsAre_setAluFlags (inc8_toNat a c) Bool.false_eq_true.to_iff decide_eq_true_iff Iff.rfl s

theorem flagsAre_dec8 (a : Byte) (c : Bool) (s : State) :
    FlagsAre ((a.toNat + 255) % 256 = 0) True (a.toNat % 16 = 0) (c = true) (setAluFlags (dec8 a c) s) :=
  flagsAre_setAluFlags (dec8_toNat a c) (iff_true_intro rfl) decide_eq_true_iff Iff.rfl s

/-! ### A result written to a register, or at HL -/

theorem reg_setAluFlags_setReg (r : Alu8) (s : State) (q : R8) (v : Byte) : (setAluFlags r (s.setReg q v)).reg q = v :=
  (setF_reg _ _ q).trans (reg_setReg_same s q v)

theorem onlyRegs_setAluFlags_setReg (r : Alu8) (s : State) (q : R8) (v : Byte) :
    OnlyRegs [q] s (setAluFlags r (s.setReg q v)) := onlyRegs_setReg_setF s q v _

theorem onlyRegs_setAluFlags (r : Alu8) (s : State) (rs : List R8) : OnlyRegs rs s (setAluFlags r s) := onlyRegs_setF s rs _

/-- A result whose number is `n`, written at an address. -/
theorem storesByte_setAluFlags_memWrite (r : Alu8) {n : Nat} (hn : r.value.toNat = n) (a : Word) (s : State) :
    StoresByte a (opByte n) s (setAluFlags r (memWrite a r.value s)) := by
  rw [opByte, ← hn, BitVec.ofNat_toNat, BitVec.setWidth_eq]
  exact storesByte_memWrite a r.value s _

theorem keepsCpu_setAluFlags_memWrite (r : Alu8) (a : Word) (v : Byte) (s : State) :
    KeepsCpu [] s (setAluFlags r (memWrite a v s)) := by
  obtain ⟨flagsOnly, -⟩ := onlyRegs_setAluFlags r (memWrite a v s) []
  exact (keepsCpu_memWrite a v s).trans flagsOnly

/-- A sum written to A with its flags; `c` is the incoming carry. -/
theorem adds_of_exec {i : Instr} {s : State} {b : Byte} {c : Bool} {cin : Nat} (hc : c.toNat = cin)
    (h : exec i s = .next (setAluFlags (add8 (s.reg .a) b c) (s.setReg .a (add8 (s.reg .a) b c).value))) :
    ∃ t, exec i s = .next t ∧ (t.reg .a).toNat = ((s.reg .a).toNat + b.toNat + cin) % 256 ∧
      FlagsAre (((s.reg .a).toNat + b.toNat + cin) % 256 = 0) False (0xF < (s.reg .a).toNat % 16 + b.toNat % 16 + cin)
        (0xFF < (s.reg .a).toNat + b.toNat + cin) t ∧ OnlyRegs [.a] s t := by
  subst hc
  refine ⟨_, h, ?_, flagsAre_add8 _ b c _, onlyRegs_setAluFlags_setReg _ s .a _⟩
  rw [reg_setAluFlags_setReg, add8_toNat]

/-- A difference written to A with its flags; `c` is the incoming borrow. -/
theorem subs_of_exec {i : Instr} {s : State} {b : Byte} {c : Bool} {cin : Nat} (hc : c.toNat = cin)
    (h : exec i s = .next (setAluFlags (sub8 (s.reg .a) b c) (s.setReg .a (sub8 (s.reg .a) b c).value))) :
    ∃ t, exec i s = .next t ∧ (t.reg .a).toNat = ((s.reg .a).toNat + 512 - b.toNat - cin) % 256 ∧
      FlagsAre (((s.reg .a).toNat + 512 - b.toNat - cin) % 256 = 0) True ((s.reg .a).toNat % 16 < b.toNat % 16 + cin)
        ((s.reg .a).toNat < b.toNat + cin) t ∧ OnlyRegs [.a] s t := by
  subst hc
  refine ⟨_, h, ?_, flagsAre_sub8 _ b c _, onlyRegs_setAluFlags_setReg _ s .a _⟩
  rw [reg_setAluFlags_setReg, sub8_toNat]

/-- A bitwise result written to A with its flags; `bits` says each bit of it. -/
theorem logic_of_exec {i : Instr} {s : State} {r : Byte} {h : Bool} {H : Prop} {f : Nat → Bool} (half : h = true ↔ H)
    (bits : ∀ k < 8, r.getLsbD k = f k) (ran : exec i s = .next (setAluFlags (logic8 r h) (s.setReg .a r))) :
    ∃ t, exec i s = .next t ∧ (∀ k < 8, (t.reg .a).getLsbD k = f k) ∧ FlagsAre ((t.reg .a).toNat = 0) False H False t ∧
      OnlyRegs [.a] s t := by
  refine ⟨_, ran, ?_, ?_, onlyRegs_setAluFlags_setReg _ s .a r⟩ <;> rw [reg_setAluFlags_setReg]
  · exact bits
  · rw [← half]
    exact flagsAre_logic8 r h _

/-- The carry flag of ADC and SBC, as the number it adds. -/
theorem toNat_eq_ite (c : Bool) {p : Prop} (hp : p) [Decidable (p ∧ c = true)] : c.toNat = if p ∧ c = true then 1 else 0 := by
  cases c <;> simp [hp]

/-! ### DAA -/

/-- Whether DAA adjusts the low digit (R244). -/
def daaLow (a : Byte) (n h : Bool) : Bool := h || (!n && decide (9 < a.toNat % 16))

/-- Whether DAA adjusts the high digit, which is the carry it leaves (R244). -/
def daaHigh (a : Byte) (n c : Bool) : Bool := c || (!n && decide (0x99 < a.toNat))

/-- The number DAA adds or subtracts (R244). -/
def daaAdjustment (a : Byte) (n h c : Bool) : Byte :=
  (if daaLow a n h then 0x06#8 else 0) ||| (if daaHigh a n c then 0x60#8 else 0)

theorem daaLow_iff (a : Byte) (n h : Bool) : daaLow a n h = true ↔ h = true ∨ (n = false ∧ 9 < a.toNat % 16) := by
  simp [daaLow]

theorem daaHigh_iff (a : Byte) (n c : Bool) : daaHigh a n c = true ↔ c = true ∨ (n = false ∧ 0x99 < a.toNat) := by
  simp [daaHigh]

/-- The four rows of the table, by the digits adjusted. -/
theorem daaAdjustment_toNat (a : Byte) (n h c : Bool) {low high : Prop} (hl : daaLow a n h = true ↔ low)
    (hh : daaHigh a n c = true ↔ high) :
    (low → high → (daaAdjustment a n h c).toNat = 0x66) ∧ (low → ¬high → (daaAdjustment a n h c).toNat = 0x06) ∧
      (¬low → high → (daaAdjustment a n h c).toNat = 0x60) ∧ (¬low → ¬high → (daaAdjustment a n h c).toNat = 0) := by
  rw [← hl, ← hh, daaAdjustment]
  cases daaLow a n h <;> cases daaHigh a n c <;> decide

theorem daa8_toNat (a : Byte) (n h c : Bool) :
    (daa8 a n h c).value.toNat =
      if n then (a.toNat + 256 - (daaAdjustment a n h c).toNat) % 256 else (a.toNat + (daaAdjustment a n h c).toNat) % 256 := by
  cases n with
  | false =>
    calc (daa8 a false h c).value.toNat
      _ = (a + daaAdjustment a false h c).toNat := rfl
      _ = _ := BitVec.toNat_add a _
  | true =>
    calc (daa8 a true h c).value.toNat
      _ = (a - daaAdjustment a true h c).toNat := by simp [daa8, daaAdjustment, daaLow, daaHigh]
      _ = (a.toNat + 256 - (daaAdjustment a true h c).toNat) % 256 := by
        rw [BitVec.toNat_sub]
        omega

theorem flagsAre_daa8 (a : Byte) (n h c : Bool) (s : State) :
    FlagsAre ((daa8 a n h c).value.toNat = 0) (n = true) False (daaHigh a n c = true) (setAluFlags (daa8 a n h c) s) := by
  cases n with
  | false => exact flagsAre_setAluFlags rfl Iff.rfl Bool.false_eq_true.to_iff Iff.rfl s
  | true => exact flagsAre_setAluFlags rfl Iff.rfl Bool.false_eq_true.to_iff (by simp [daa8, daaHigh]) s

/-! ### The forms -/

/-- Settles O15: each form writes the sum, ADC with the carry flag coming in. -/
theorem addAdcForms : Obligations.AddAdcForms := by
  intro op form s hop cin a b
  refine aluForm_form op form ?_
  rcases hop with rfl | rfl
  · exact adds_of_exec (c := false) rfl (exec_aluForm .add form s)
  · exact adds_of_exec (toNat_eq_ite s.flagC rfl) (exec_aluForm .adc form s)

/-- Settles O16: each form writes the difference, SBC with the carry flag coming in; CP writes its flags alone. -/
theorem subSbcCpForms : Obligations.SubSbcCpForms := by
  intro op form s hop cin a b
  refine aluForm_form op form ?_
  rcases hop with rfl | rfl | rfl
  · exact subs_of_exec (c := false) rfl (exec_aluForm .sub form s)
  · exact subs_of_exec (toNat_eq_ite s.flagC rfl) (exec_aluForm .sbc form s)
  · exact ⟨_, exec_aluForm .cp form s, rfl, flagsAre_sub8 _ _ false s, onlyRegs_setAluFlags _ s [.a]⟩

/-- Settles O17: each form writes a bitwise result, with H set by AND alone. -/
theorem logicForms : Obligations.LogicForms := by
  intro op form s hop
  refine aluForm_form op form ?_
  rcases hop with rfl | rfl | rfl
  · exact logic_of_exec (by decide) (fun k _ => BitVec.getLsbD_and) (exec_aluForm .and form s)
  · exact logic_of_exec (by decide) (fun k _ => BitVec.getLsbD_xor) (exec_aluForm .xor form s)
  · exact logic_of_exec (by decide) (fun k _ => BitVec.getLsbD_or) (exec_aluForm .or form s)

/-- Settles O18: the stepped value goes to the register, with the carry flag passed through. -/
theorem incDecRegister : Obligations.IncDecRegister := by
  refine fun r s => ⟨incReg_form r ⟨_, exec_incReg r s, ?inc, flagsAre_inc8 _ _ _, onlyRegs_setAluFlags_setReg _ s r _⟩,
    decReg_form r ⟨_, exec_decReg r s, ?dec, flagsAre_dec8 _ _ _, onlyRegs_setAluFlags_setReg _ s r _⟩⟩
  case inc => rw [incReg, reg_setAluFlags_setReg, inc8_toNat]
  case dec => rw [decReg, reg_setAluFlags_setReg, dec8_toNat]

/-- Settles O19: the stepped byte is written where it was read; at 0xFF04 the write is DIV's trap, whatever the byte. -/
theorem incDecMemory : Obligations.IncDecMemory := by
  refine ⟨fun s => ⟨primary_form ⟨incMem s, rfl, ?inc⟩, primary_form ⟨decMem s, rfl, ?dec⟩⟩, fun s hl => ⟨_, rfl, ?div⟩⟩
  case inc =>
    exact ⟨storesByte_setAluFlags_memWrite _ (inc8_toNat _ _) _ s, flagsAre_inc8 _ _ _, keepsCpu_setAluFlags_memWrite _ _ _ s⟩
  case dec =>
    exact ⟨storesByte_setAluFlags_memWrite _ (dec8_toNat _ _) _ s, flagsAre_dec8 _ _ _, keepsCpu_setAluFlags_memWrite _ _ _ s⟩
  case div =>
    rw [incMem, writeHL, hlAddr, hl, memWrite_ioReg .div 0xFF04 rfl rfl]
    exact ⟨rfl, rfl⟩

/-- Settles O20: DAA subtracts or adds the adjustment of its table, and its carry is the high digit's test. -/
theorem decimalAdjust_byTable : Obligations.DecimalAdjust := by
  intro s a low high
  have carry : daaHigh (s.reg .a) s.flagN s.flagC = true ↔ high := daaHigh_iff _ _ _
  obtain ⟨both, lowOnly, highOnly, neither⟩ :=
    daaAdjustment_toNat (s.reg .a) s.flagN s.flagH s.flagC (daaLow_iff _ _ _) carry
  have result := daa8_toNat (s.reg .a) s.flagN s.flagH s.flagC
  refine primary_form ⟨_, _, decimalAdjust s, rfl, both, lowOnly, highOnly, neither, result, ?value, ?flags,
    onlyRegs_setAluFlags_setReg _ s .a _⟩
  case value => exact congrArg BitVec.toNat (reg_setAluFlags_setReg _ s .a _)
  case flags =>
    rw [← carry]
    exact flagsAre_daa8 (s.reg .a) s.flagN s.flagH s.flagC _

/-- Settles O21: CPL writes the complement of A; SCF and CCF write F alone. -/
theorem cplScfCcf : Obligations.CplScfCcf := by
  refine fun s => ⟨primary_form ⟨complementA s, rfl, ?a, ?cpl, onlyRegs_setReg_setF s .a _ _⟩,
    primary_form ⟨setCarry s, rfl, ?scf, onlyRegs_setF s [] _⟩, primary_form ⟨complementCarry s, rfl, ?ccf, onlyRegs_setF s [] _⟩⟩
  case a =>
    calc ((complementA s).reg .a).toNat
      _ = (s.reg .a ^^^ BitVec.allOnes 8).toNat := rfl
      _ = 255 - (s.reg .a).toNat := by rw [BitVec.xor_allOnes, BitVec.toNat_not]
  case cpl => apply flagsAre_setF <;> simp
  case scf => apply flagsAre_setF <;> simp
  case ccf => apply flagsAre_setF <;> simp

end Sys2Proof.Machine

/-! ## The 16-bit arithmetic (O22, O24): a pair or SP written, with its flags where it sets any -/

namespace Sys2Proof.Machine

/-! ### Bytes and cost of the forms with a pair in the opcode -/

theorem addHLPair_form {acts : Prop} (p : R16) (does : acts) :
    encode (.addHLPair p) = [opByte (0x09 + 16 * codeR16 p)] ∧ Costs (.addHLPair p) 8 ∧ acts := by
  cases p <;> exact primary_form does

theorem incPair_form {acts : Prop} (p : R16) (does : acts) :
    encode (.incPair p) = [opByte (0x03 + 16 * codeR16 p)] ∧ Costs (.incPair p) 8 ∧ acts := by
  cases p <;> exact primary_form does

theorem decPair_form {acts : Prop} (p : R16) (does : acts) :
    encode (.decPair p) = [opByte (0x0B + 16 * codeR16 p)] ∧ Costs (.decPair p) 8 ∧ acts := by
  cases p <;> exact primary_form does

/-! ### What each operation writes -/

/-- The sum reaches HL whole, through the two registers it is kept in; the write of F leaves both alone. -/
theorem addHLPair_pair_hl (p : R16) (s : State) : (addHLPair p s).pair .hl = s.pair .hl + s.pair p :=
  pair_setPair s .hl _

theorem flagsAre_addHLPair (p : R16) (s : State) :
    FlagsAre (s.flagZ = true) False (0xFFF < (s.pair .hl).toNat % 4096 + (s.pair p).toNat % 4096)
      (0xFFFF < (s.pair .hl).toNat + (s.pair p).toNat) (addHLPair p s) :=
  flagsAre_setF _ _ _ _ _ _ _ _ Iff.rfl Bool.false_eq_true.to_iff decide_eq_true_iff decide_eq_true_iff _

theorem flagsAre_addSp (e : Byte) (s : State) :
    FlagsAre False False (0xF < s.cpu.sp.toNat % 16 + e.toNat % 16) (0xFF < s.cpu.sp.toNat % 256 + e.toNat) (addSp e s) :=
  flagsAre_setF _ _ _ _ _ _ _ _ Bool.false_eq_true.to_iff Bool.false_eq_true.to_iff decide_eq_true_iff decide_eq_true_iff _

/-- A write of F after a pair's is outside what the pair's frame speaks of. -/
theorem onlyPair_setPair_setF (s : State) (p : R16) (w : Word) (f : Byte) : OnlyPair p s ((s.setPair p w).setF f) := by
  obtain ⟨⟨regs, sp, pc, latches, rest⟩, -⟩ := onlyPair_setPair s p w
  obtain ⟨⟨regs', sp', pc', latches'⟩, rest'⟩ := onlyRegs_setF (s.setPair p w) (pairRegs p) f
  exact ⟨fun r hr => (regs' r hr).trans (regs r hr), fun hp => sp'.trans (sp hp), pc, latches, rest.trans rest'⟩

/-! ### The forms -/

/-- Settles O22: ADD HL,rr writes HL and F; INC rr and DEC rr write the pair alone, a step down being one up by 2^16 - 1. -/
theorem pairArithmetic : Obligations.PairArithmetic := by
  refine ⟨fun p s => addHLPair_form p ⟨_, exec_addHLPair p s, ?add, flagsAre_addHLPair p s, onlyRegs_setPair_hl_setF s _ _⟩,
    fun p s => ⟨incPair_form p ⟨_, exec_incPair p s, ?inc, onlyPair_setPair s p _⟩,
      decPair_form p ⟨_, exec_decPair p s, ?dec, onlyPair_setPair s p _⟩⟩⟩
  case add => rw [addHLPair_pair_hl, BitVec.toNat_add]
  case inc =>
    rw [incPair, pair_setPair, BitVec.toNat_add]
    rfl
  case dec =>
    rw [decPair, pair_setPair, BitVec.toNat_sub, Nat.add_comm]
    rfl

/-- Settles O24: SP takes the signed sum, and the flags those of the low bytes added unsigned. -/
theorem addToSp : Obligations.AddToSp := fun e s =>
  primary_form ⟨addSp e s, rfl, displacement_add_toNat s.cpu.sp e, flagsAre_addSp e s, onlyPair_setPair_setF s .sp _ _⟩

end Sys2Proof.Machine

/-! ## The rotates, shifts and bit operations (O25 to O29): one byte rotated, tested or changed in one bit -/

namespace Sys2Proof.Machine

/-! ### Bytes and cost of a form of the CB page -/

/-- An instruction of the CB page, with what it does. An illegal opcode has one byte, so none of the page is one. -/
theorem cb_form {i : Instr} {op2 : Byte} {n : Nat} {acts : Prop} (does : acts) (bytes : encode i = [0xCB, op2] := by rfl)
    (cost : cbCost op2 = n := by rfl) : encode i = [0xCB, op2] ∧ Costs i n ∧ acts := by
  have legal : ∀ b, i ≠ .illegal b := by
    rintro b rfl
    cases bytes
  exact ⟨bytes, costs_cb i op2 n bytes legal cost, does⟩

/-! ### A rotation with its flags (R270) -/

/-- A rotation as a result with its flags, Z from the value and H clear: what the CB page's forms write. -/
def rotResult (op : RotOp) (v : Byte) (c : Bool) : Alu8 :=
  { value := (rotate op v c).1, z := (rotate op v c).1 == 0, n := false, h := false, c := (rotate op v c).2 }

theorem rotateReg_eq (op : RotOp) (r : R8) (s : State) :
    rotateReg op r s =
      setAluFlags (rotResult op (s.reg r) s.flagC) (s.setReg r (rotResult op (s.reg r) s.flagC).value) := rfl

theorem rotateMem_eq (op : RotOp) (s : State) :
    rotateMem op s =
      setAluFlags (rotResult op (readHL s) s.flagC) (memWrite (hlAddr s) (rotResult op (readHL s) s.flagC).value s) := rfl

theorem rotResult_toNat (op : RotOp) (v : Byte) (c : Bool) : (rotResult op v c).value.toNat = (rotSpec op v.toNat c).1 :=
  congrArg Prod.fst (rotate_spec op v c)

theorem rotResult_carry (op : RotOp) (v : Byte) (c : Bool) : (rotResult op v c).c = (rotSpec op v.toNat c).2 :=
  congrArg Prod.snd (rotate_spec op v c)

theorem flagsAre_rotResult (op : RotOp) (v : Byte) (c : Bool) (s : State) :
    FlagsAre ((rotSpec op v.toNat c).1 = 0) False False ((rotSpec op v.toNat c).2 = true)
      (setAluFlags (rotResult op v c) s) :=
  flagsAre_setAluFlags (rotResult_toNat op v c) Bool.false_eq_true.to_iff Bool.false_eq_true.to_iff
    (Bool.eq_iff_iff.1 (rotResult_carry op v c)) s

/-- An accumulator rotate writes the rotation to A, and its carry to F with Z clear (R271 to R274). -/
theorem rotates_of_exec_rotateA {i : Instr} {s : State} {op : RotOp} (h : exec i s = .next (rotateA op s)) :
    ∃ t, exec i s = .next t ∧ (t.reg .a).toNat = (rotSpec op (s.reg .a).toNat s.flagC).1 ∧
      FlagsAre False False False ((rotSpec op (s.reg .a).toNat s.flagC).2 = true) t ∧ OnlyRegs [.a] s t := by
  refine ⟨_, h, ?value, ?flags, onlyRegs_setReg_setF s .a _ _⟩
  case value =>
    calc ((rotateA op s).reg .a).toNat
      _ = (rotResult op (s.reg .a) s.flagC).value.toNat := rfl
      _ = _ := rotResult_toNat op (s.reg .a) s.flagC
  case flags =>
    exact flagsAre_setF _ _ _ _ _ _ _ _ Bool.false_eq_true.to_iff Bool.false_eq_true.to_iff Bool.false_eq_true.to_iff
      (Bool.eq_iff_iff.1 (rotResult_carry op (s.reg .a) s.flagC)) _

/-- A rotate of a register writes the rotation there, with its flags. -/
theorem rotates_of_exec_rotateReg {i : Instr} {s : State} {op : RotOp} {r : R8} (h : exec i s = .next (rotateReg op r s)) :
    ∃ t, exec i s = .next t ∧ (t.reg r).toNat = (rotSpec op (s.reg r).toNat s.flagC).1 ∧
      FlagsAre ((rotSpec op (s.reg r).toNat s.flagC).1 = 0) False False ((rotSpec op (s.reg r).toNat s.flagC).2 = true) t ∧
      OnlyRegs [r] s t := by
  rw [rotateReg_eq] at h
  refine ⟨_, h, ?value, flagsAre_rotResult op _ _ _, onlyRegs_setAluFlags_setReg _ s r _⟩
  case value => rw [reg_setAluFlags_setReg, rotResult_toNat]

/-- A rotate of the byte at HL writes the rotation there, with its flags. -/
theorem rotates_of_exec_rotateMem {i : Instr} {s : State} {op : RotOp} (h : exec i s = .next (rotateMem op s)) :
    ∃ t, exec i s = .next t ∧ StoresByte (hlAddr s) (opByte (rotSpec op (readHL s).toNat s.flagC).1) s t ∧
      FlagsAre ((rotSpec op (readHL s).toNat s.flagC).1 = 0) False False
        ((rotSpec op (readHL s).toNat s.flagC).2 = true) t ∧ KeepsCpu [] s t := by
  rw [rotateMem_eq] at h
  exact ⟨_, h, storesByte_setAluFlags_memWrite _ (rotResult_toNat op _ _) _ s, flagsAre_rotResult op _ _ _,
    keepsCpu_setAluFlags_memWrite _ _ _ s⟩

/-! ### One bit of a byte -/

theorem not_getLsbD_iff_toNat (v : Byte) (n : Nat) : (!v.getLsbD n) = true ↔ v.toNat / 2 ^ n % 2 = 0 := by
  rw [BitVec.getLsbD, Nat.testBit_eq_decide_div_mod_eq, Bool.not_eq_true', decide_eq_false_iff_not]
  omega

/-- BIT writes F alone: Z is the complement of the bit, and C is kept. -/
theorem tests_of_exec_testBit {i : Instr} {s : State} {b : BitNum} {v : Byte} (h : exec i s = .next (testBit b v s)) :
    ∃ t, exec i s = .next t ∧ FlagsAre (v.toNat / 2 ^ b.toNat % 2 = 0) False True (s.flagC = true) t ∧ OnlyRegs [] s t :=
  ⟨_, h, flagsAre_setF _ _ _ _ _ _ _ _ (not_getLsbD_iff_toNat v b.toNat) Bool.false_eq_true.to_iff (iff_true_intro rfl)
    Iff.rfl s, onlyRegs_setF s [] _⟩

theorem bitNum_toNat_lt (b : BitNum) : b.toNat < 8 := by cases b <;> decide

theorem getLsbD_bitMask (b : BitNum) (k : Nat) : (bitMask b).getLsbD k = decide (k = b.toNat) :=
  calc (bitMask b).getLsbD k
    _ = (BitVec.twoPow 8 b.toNat).getLsbD k := rfl
    _ = decide (k = b.toNat) := by simp [BitVec.getLsbD_twoPow, bitNum_toNat_lt, eq_comm]

/-- The byte `w` is `v` with bit `b` made `bit`. -/
def PutsBit (b : BitNum) (bit : Bool) (v w : Byte) : Prop :=
  ∀ k < 8, w.getLsbD k = if k = b.toNat then bit else v.getLsbD k

theorem putsBit_reset (b : BitNum) (v : Byte) : PutsBit b false v (v &&& ~~~bitMask b) := by
  intro k hk
  rw [BitVec.getLsbD_and, BitVec.getLsbD_not, getLsbD_bitMask]
  by_cases here : k = b.toNat <;> simp [here, hk]

theorem putsBit_set (b : BitNum) (v : Byte) : PutsBit b true v (v ||| bitMask b) := by
  intro k _
  rw [BitVec.getLsbD_or, getLsbD_bitMask]
  by_cases here : k = b.toNat <;> simp [here]

/-- A register written with one of its bits changed. -/
theorem putsBit_of_exec_setReg {i : Instr} {s : State} {b : BitNum} {bit : Bool} {r : R8} {w : Byte}
    (puts : PutsBit b bit (s.reg r) w) (h : exec i s = .next (s.setReg r w)) :
    ∃ t, exec i s = .next t ∧ PutsBit b bit (s.reg r) (t.reg r) ∧ OnlyRegs [r] s t ∧ KeepsF s t := by
  obtain ⟨t, ran, value, frame⟩ := loads_of_exec_setReg h
  exact ⟨t, ran, value ▸ puts, frame⟩

/-- The byte at HL written back with one of its bits changed. -/
theorem putsBit_of_exec_writeHL {i : Instr} {s : State} {b : BitNum} {bit : Bool} {w : Byte}
    (puts : PutsBit b bit (readHL s) w) (h : exec i s = .next (writeHL w s)) :
    ∃ w t, exec i s = .next t ∧ PutsBit b bit (readHL s) w ∧ StoresByte (hlAddr s) w s t ∧ KeepsCpu [] s t ∧ KeepsF s t := by
  obtain ⟨t, ran, frame⟩ := stores_of_exec_memWrite h
  exact ⟨w, t, ran, puts, frame⟩

/-! ### The forms -/

/-- Settles O25: each form writes its rotation to A, with Z clear whatever the result. -/
theorem accumulatorRotates : Obligations.AccumulatorRotates := fun _ =>
  ⟨primary_form (rotates_of_exec_rotateA rfl), primary_form (rotates_of_exec_rotateA rfl),
    primary_form (rotates_of_exec_rotateA rfl), primary_form (rotates_of_exec_rotateA rfl)⟩

/-- Settles O26: each form writes its rotation to the register, with the rotation's flags. -/
theorem rotatesOfRegister : Obligations.RotatesOfRegister := by
  intro op r s
  have rotates := rotates_of_exec_rotateReg (exec_rotReg op r s)
  cases op <;> cases r <;> exact cb_form rotates

/-- Settles O27: each form writes its rotation where it read the byte, with the rotation's flags. -/
theorem rotatesOfMemory : Obligations.RotatesOfMemory := by
  intro op s
  have rotates := rotates_of_exec_rotateMem (exec_rotInd op s)
  cases op <;> exact cb_form rotates

/-- Settles O28: each form writes F alone, from the bit of the operand it reads. -/
theorem bitTestForms : Obligations.BitTestForms := by
  refine fun b s => ⟨fun r => ?reg, ?ind⟩
  case reg =>
    have tests := tests_of_exec_testBit (exec_bitReg b r s)
    cases b <;> cases r <;> exact cb_form tests
  case ind =>
    have tests := tests_of_exec_testBit (exec_bitInd b s)
    cases b <;> exact cb_form tests

/-- Settles O29: each form writes its operand back with the one bit changed, and leaves F. -/
theorem resSetForms : Obligations.ResSetForms := by
  refine fun b s => ⟨fun r => ?resReg, fun r => ?setReg, ?resInd, ?setInd⟩
  case resReg =>
    have puts := putsBit_of_exec_setReg (putsBit_reset b (s.reg r)) (exec_resReg b r s)
    cases b <;> cases r <;> exact cb_form puts
  case setReg =>
    have puts := putsBit_of_exec_setReg (putsBit_set b (s.reg r)) (exec_setReg b r s)
    cases b <;> cases r <;> exact cb_form puts
  case resInd =>
    have puts := putsBit_of_exec_writeHL (putsBit_reset b (readHL s)) (exec_resInd b s)
    cases b <;> exact cb_form puts
  case setInd =>
    have puts := putsBit_of_exec_writeHL (putsBit_set b (readHL s)) (exec_setInd b s)
    cases b <;> exact cb_form puts

end Sys2Proof.Machine

/-! ## Control transfer (O30 to O32): PC written, alone or with a word pushed or popped, on a branch or always -/

namespace Sys2Proof.Machine

/-! ### Bytes and cost of a form with a condition or a target in the opcode

What computes is given to `primary_form` in full here: its default arguments wait for every declaration above to be compiled. -/

/-- A conditional instruction, with what it does; `primary_form` is the unconditional counterpart. An illegal opcode has no
condition, so none of these is one. -/
theorem branch_form {i : Instr} {cc : Cond} {op : Byte} {rest : List Byte} {m n : Nat} {acts : Prop} (does : acts)
    (bytes : encode i = op :: rest) (page : op ≠ 0xCB) (branch : condOf i = some cc) (cost : primaryCost op = (m, n)) :
    encode i = op :: rest ∧ CostsBranch i cc m n ∧ acts := by
  have legal : ∀ b, i ≠ .illegal b := by
    rintro b rfl
    cases branch
  exact ⟨bytes, costs_branch i cc op rest m n bytes page branch legal cost, does⟩

theorem jpCond_form {acts : Prop} (cc : Cond) (nn : Word) (does : acts) :
    encode (.jpCond cc nn) = opByte (0xC2 + 8 * codeCond cc) :: wordBytes nn ∧ CostsBranch (.jpCond cc nn) cc 12 16 ∧
      acts := by
  rw [wordBytes_eq]
  cases cc <;> exact branch_form does rfl (by decide) rfl rfl

theorem jrCond_form {acts : Prop} (cc : Cond) (e : Byte) (does : acts) :
    encode (.jrCond cc e) = [opByte (0x20 + 8 * codeCond cc), e] ∧ CostsBranch (.jrCond cc e) cc 8 12 ∧ acts := by
  cases cc <;> exact branch_form does rfl (by decide) rfl rfl

theorem callCond_form {acts : Prop} (cc : Cond) (nn : Word) (does : acts) :
    encode (.callCond cc nn) = opByte (0xC4 + 8 * codeCond cc) :: wordBytes nn ∧
      CostsBranch (.callCond cc nn) cc 12 24 ∧ acts := by
  rw [wordBytes_eq]
  cases cc <;> exact branch_form does rfl (by decide) rfl rfl

theorem retCond_form {acts : Prop} (cc : Cond) (does : acts) :
    encode (.retCond cc) = [opByte (0xC0 + 8 * codeCond cc)] ∧ CostsBranch (.retCond cc) cc 8 20 ∧ acts := by
  cases cc <;> exact branch_form does rfl (by decide) rfl rfl

theorem rst_form {acts : Prop} (v : RstVec) (does : acts) :
    encode (.rst v) = [opByte (0xC7 + v.target.toNat)] ∧ Costs (.rst v) 16 ∧ acts := by
  cases v <;> exact primary_form does rfl (by decide) rfl nofun rfl

/-! ### Conditions and restart targets -/

theorem condHolds_iff (cc : Cond) (s : State) : condHolds cc s = true ↔
    (cc = .nz ∧ s.flagZ = false) ∨ (cc = .z ∧ s.flagZ = true) ∨ (cc = .nc ∧ s.flagC = false) ∨
      (cc = .c ∧ s.flagC = true) := by
  cases cc <;> simp [condHolds]

theorem rstVec_ofField_target : ∀ y : Fin 8, (RstVec.ofField y).target.toNat = 8 * y.val := by decide

theorem exists_rstVec_target (v : RstVec) : ∃ y : Fin 8, v.target.toNat = 8 * y.val := by cases v <;> decide

/-! ### Jumps -/

theorem jumps_of_exec_setPc {i : Instr} {s : State} {v : Word} (h : exec i s = .next (s.setPc v)) :
    ∃ t, exec i s = .next t ∧ t.cpu.pc = v ∧ OnlyPc s t :=
  ⟨_, h, rfl, onlyPc_setPc s v⟩

/-- A conditional jump writes PC where its condition holds and nothing where it does not. -/
theorem jumps_of_exec_ite_setPc {i : Instr} {s : State} {cc : Cond} {v : Word}
    (h : exec i s = .next (if condHolds cc s then s.setPc v else s)) :
    ∃ t, exec i s = .next t ∧ (condHolds cc s = true → t.cpu.pc = v) ∧
      (condHolds cc s = false → t.cpu.pc = s.cpu.pc) ∧ OnlyPc s t := by
  refine ⟨_, h, fun taken => ?taken, fun skipped => ?skipped, ?frame⟩
  case taken =>
    rw [if_pos taken]
    rfl
  case skipped =>
    rw [skipped]
    rfl
  case frame =>
    split
    · exact onlyPc_setPc s v
    · exact onlyPc_refl s

/-! ### Calls -/

/-- What a push did is not undone by a write of PC. -/
theorem PushesWord.setPc {w : Word} {s t : State} (h : PushesWord w s t) (v : Word) : PushesWord w s (t.setPc v) := by
  obtain ⟨sp, written, cells⟩ := h
  exact ⟨sp, by rw [written]; rfl, fun hi lo port b apart => (memRead_cpu t _ port b).trans (cells hi lo port b apart)⟩

theorem KeepsLatches.setPc {s t : State} (h : KeepsLatches s t) (v : Word) : KeepsLatches s (t.setPc v) := h

/-- A call pushes the PC it is run at, and leaves the rest of the CPU as `push16` does. -/
theorem calls_of_exec_doCall {i : Instr} {s : State} {nn : Word} (h : exec i s = .next (doCall nn s)) :
    ∃ t, exec i s = .next t ∧ t.cpu.pc = nn ∧ PushesWord s.cpu.pc s t ∧ KeepsRegs [] s t ∧ KeepsF s t ∧
      KeepsLatches s t := by
  obtain ⟨regs, f, -, latches⟩ := push16_keeps s.cpu.pc s
  exact ⟨(push16 s.cpu.pc s).setPc nn, h, setPc_pc .., (pushesWord_push16 s.cpu.pc s).setPc nn,
    fun r hr => (setPc_reg _ nn r).trans (regs r hr), (setPc_f ..).trans f, latches.setPc nn⟩

/-! ### Returns -/

theorem setIme_of_eq (s : State) {b : Bool} (h : s.cpu.ime = b) : s.setIme b = s := by
  rw [← h]
  rfl

/-- A return moves SP past the word on top of the stack, which goes to PC; `ime` is IME as the return leaves it. -/
theorem returns_of_exec_doReturn {i : Instr} {s : State} {w : Word} {ime : Bool} (top : TopOfStack s w)
    (h : exec i s = .next ((doReturn s).setIme ime)) :
    ∃ t, exec i s = .next t ∧ t.cpu.pc = w ∧ t.cpu.sp.toNat = (s.cpu.sp.toNat + 2) % 65536 ∧
      t.cpu = { s.cpu with pc := t.cpu.pc, sp := t.cpu.sp, ime := ime } ∧ KeepsRest s t :=
  ⟨_, h, popValue_of_top s w top, BitVec.toNat_add .., rfl, keepsRest_cpu s _⟩

/-! ### The forms -/

/-- Settles O30: each form writes PC alone; a relative jump's sum is the signed one. -/
theorem jumps : Obligations.Jumps := by
  refine ⟨fun nn s => ?jp, fun cc nn s => ?jpCond, fun s => ?jpHL, fun e s => ?jr, fun cc e s => ?jrCond, condHolds_iff⟩
  case jp =>
    rw [wordBytes_eq]
    exact primary_form (jumps_of_exec_setPc rfl) rfl (by decide) rfl nofun rfl
  case jpCond => exact jpCond_form cc nn (jumps_of_exec_ite_setPc (exec_jpCond cc nn s))
  case jpHL => exact primary_form (jumps_of_exec_setPc rfl) rfl (by decide) rfl nofun rfl
  case jr =>
    exact primary_form ⟨jumpRel e s, rfl, displacement_add_toNat s.cpu.pc e, onlyPc_setPc s _⟩ rfl (by decide) rfl nofun rfl
  case jrCond =>
    obtain ⟨t, ran, taken, skipped, frame⟩ := jumps_of_exec_ite_setPc (exec_jrCond cc e s)
    refine jrCond_form cc e ⟨t, ran, fun holds => ?_, skipped, frame⟩
    rw [taken holds, displacement_add_toNat]

/-- Settles O31: each form is a push of PC and a jump; a call not taken is no change. -/
theorem callsAndRestarts : Obligations.CallsAndRestarts := by
  refine ⟨fun nn s => ?call, fun cc nn s => ?callCond, fun y s => ?rst, exists_rstVec_target⟩
  case call =>
    rw [wordBytes_eq]
    exact primary_form (calls_of_exec_doCall rfl) rfl (by decide) rfl nofun rfl
  case callCond =>
    have ran := exec_callCond cc nn s
    refine callCond_form cc nn ⟨fun taken => calls_of_exec_doCall ?_, fun skipped => ?_⟩
    · rw [ran, callIf, if_pos taken]
    · rw [ran, callIf, skipped]
      rfl
  case rst =>
    have target := rstVec_ofField_target y
    obtain ⟨t, ran, pc, frame⟩ := calls_of_exec_doCall (exec_rst (.ofField y) s)
    refine ⟨.ofField y, target, ?_⟩
    rw [← target]
    exact rst_form _ ⟨t, ran, congrArg BitVec.toNat pc, frame⟩

/-- Settles O32: each form is the pop of PC, with IME kept by RET and set by RETI; a return not taken is no change. -/
theorem returns : Obligations.Returns := by
  intro s w top claim
  have kept : (doReturn s).setIme s.cpu.ime = doReturn s := setIme_of_eq _ rfl
  refine ⟨?ret, fun cc => ?retCond, ?reti⟩
  case ret =>
    have ran : exec .ret s = .next (doReturn s) := rfl
    rw [← kept] at ran
    exact primary_form (returns_of_exec_doReturn top ran) rfl (by decide) rfl nofun rfl
  case reti => exact primary_form (returns_of_exec_doReturn top rfl) rfl (by decide) rfl nofun rfl
  case retCond =>
    have ran := exec_retCond cc s
    refine retCond_form cc ⟨fun taken => returns_of_exec_doReturn top ?_, fun skipped => ?_⟩
    · rw [ran, returnIf, if_pos taken, kept]
    · rw [ran, returnIf, skipped]
      rfl

end Sys2Proof.Machine

/-! ## The system instructions (O33) and the two special fetches: after the HALT bug (O35), of an illegal opcode (O40) -/

namespace Sys2Proof.Machine

/-! ### HALT's two outcomes (R331) -/

theorem getLsbD_pendingBits (s : State) {k : Nat} (hk : k < 5) :
    (pendingBits s).getLsbD k = (s.irq.ifReg.getLsbD k && s.irq.ie.getLsbD k) := by
  simp [pendingBits, hk]

/-- A request is pending when one of the five sources has its bit in both IF and IE (R355). -/
theorem pendingBits_ne_zero_iff (s : State) :
    pendingBits s ≠ 0 ↔ ∃ k < 5, s.irq.ifReg.getLsbD k = true ∧ s.irq.ie.getLsbD k = true := by
  constructor
  · intro pending
    by_contra noSource
    push Not at noSource
    refine pending (BitVec.eq_of_getLsbD_eq fun k hk => ?_)
    simpa [getLsbD_pendingBits s hk] using noSource k hk
  · rintro ⟨k, hk, requested, enabled⟩ idle
    have bit := getLsbD_pendingBits s hk
    simp [idle, requested, enabled] at bit

/-- With IME clear and a request pending, HALT arms the bug and does not halt. -/
theorem exec_halt_of_pending {s : State} (off : s.cpu.ime = false) (pending : pendingBits s ≠ 0) :
    exec .halt s = .next (s.setHaltBug true) :=
  congrArg Host.Outcome.next (if_pos (Bool.and_eq_true_iff.2 ⟨Bool.not_eq_eq_eq_not.2 off, bne_iff_ne.2 pending⟩))

/-- Otherwise it halts. -/
theorem exec_halt_of_not_pending {s : State} (h : s.cpu.ime = true ∨ pendingBits s = 0) :
    exec .halt s = .next (s.setHalted true) :=
  congrArg Host.Outcome.next (if_neg (by rcases h with h | h <;> simp [h]))

/-! ### The fetch and the EI latch -/

/-- With the HALT bug armed, PC stays at the opcode, which is read again as the first operand (R331). -/
theorem fetch_of_decode_at_haltBug {s : State} {i : Instr} {rest : List Byte} (hb : s.cpu.haltBug = true)
    (h : decode [memRead .opcode s.cpu.pc s, memRead .operand1 s.cpu.pc s, memRead .operand2 (s.cpu.pc + 1) s] =
      .ok (i, rest)) :
    fetchedInstr s = i ∧ afterFetch s = (s.setPc (s.cpu.pc + BitVec.ofNat 16 (i.length - 1))).setHaltBug false := by
  have stays : operandAddr s = s.cpu.pc := if_pos hb
  rw [← stays]
  exact fetch_of_decode (by rwa [stays])

/-- A crashed machine does not consume the EI latch (R365, R380). -/
theorem consumeEi_of_crashed (was : Bool) {s : State} (h : s.cpu.crashed = true) : consumeEi was s = s := by
  simp [consumeEi, h]

/-! ### The forms and the two steps -/

/-- Settles O33: each form sets its own latches and no more; HALT tells its two outcomes apart by the pending bits. -/
theorem systemInstructions : Obligations.SystemInstructions := by
  refine ⟨fun s => ?nop, fun s => ?di, fun s => ?ei, fun pad s => ?stop, fun s => ?halt, fun op s => ?illegal⟩
  case nop => exact primary_form rfl rfl (by decide) rfl nofun rfl
  case di => exact primary_form rfl rfl (by decide) rfl nofun rfl
  case ei => exact primary_form rfl rfl (by decide) rfl nofun rfl
  case stop => exact primary_form rfl rfl (by decide) rfl nofun rfl
  case halt =>
    refine primary_form ?_ rfl (by decide) rfl nofun rfl
    dsimp only
    rw [← pendingBits_ne_zero_iff, not_ne_iff]
    exact ⟨exec_halt_of_pending, exec_halt_of_not_pending⟩
  case illegal => exact ⟨rfl, fun t _ => cycleCount_illegal op t, rfl⟩

/-- Settles O35: the fetch reads the byte at PC twice, and the step runs what those bytes decode to. -/
theorem haltBugRepeatsOpcode : Obligations.HaltBugRepeatsOpcode := by
  intro s i rest t hc hs hh hb hi hd started ran
  obtain ⟨fetched, after⟩ := fetch_of_decode_at_haltBug hb hd
  have run : runInstr s = .next (consumeEi s.cpu.eiPending t) := by rw [runInstr, fetched, after, ran]
  rw [step, coreStep_of_runInstr s _ hc hs hh hi run, instrCycles, fetched, after]

/-- Settles O40: the step runs the illegal instruction, which bills nothing, so no device ticks; after the crash the EI
latch stands. -/
theorem illegalOpcodeStep : Obligations.IllegalOpcodeStep := by
  intro s hc hs hh hb hi hop
  obtain ⟨runs, -, noTick⟩ := stepRunsDecodedInstruction
  obtain ⟨-, core⟩ := runs s _ _ _ hc hs hh hb hi (decode_illegal hop _) rfl
  rw [cycleCount_illegal, consumeEi_of_crashed _ rfl, noTick] at core
  exact core

end Sys2Proof.Machine

/-! ## The timer as cycles pass (O43): DIV and TIMA on numbers -/

namespace Sys2Proof.Machine

theorem timerPeriod_bounds (tac : BitVec 3) : 0 < timerPeriod tac ∧ timerPeriod tac ≤ 1024 := by
  revert tac; decide

theorem timerPeriod_eq (tac : BitVec 3) : timerPeriod tac =
    if tac.toNat % 4 = 0 then 1024 else if tac.toNat % 4 = 1 then 16 else if tac.toNat % 4 = 2 then 64 else 256 := by
  revert tac; decide

/-! ### What the two halves of a tick write -/

/-- Writes DIV and the timer's two counters, which the TIMA loop does not look at. -/
def State.setCounters (div : Byte) (divCounter timaCounter : Nat) (s : State) : State :=
  { s with timer := { s.timer with div := div, divCounter := divCounter, timaCounter := timaCounter } }

section
variable (s : State) (div : Byte) (c e : Nat)

@[simp] theorem setCounters_tac : (s.setCounters div c e).timer.tac = s.timer.tac := rfl
@[simp] theorem setCounters_tima : (s.setCounters div c e).timer.tima = s.timer.tima := rfl
@[simp] theorem setCounters_div : (s.setCounters div c e).timer.div = div := rfl
@[simp] theorem setCounters_divCounter : (s.setCounters div c e).timer.divCounter = c := rfl
@[simp] theorem setCounters_timaCounter : (s.setCounters div c e).timer.timaCounter = e := rfl
@[simp] theorem setCounters_setCounters (div' : Byte) (c' e' : Nat) :
    (s.setCounters div c e).setCounters div' c' e' = s.setCounters div' c' e' := rfl

theorem timaSteps_setCounters (n : Nat) : timaSteps n (s.setCounters div c e) = (timaSteps n s).setCounters div c e := by
  induction n generalizing s with
  | zero => rfl
  | succ n ih =>
    have pass : timaStep (s.setCounters div c e) = (timaStep s).setCounters div c e := by
      unfold timaStep
      rw [setCounters_tima]
      split <;> rfl
    rw [timaSteps, timaSteps, pass, ih]

end

/-- The TIMA loop leaves everything but TIMA and IF as it was. -/
theorem timaSteps_frame (n : Nat) (s : State) : ∃ tima ifReg, timaSteps n s =
    { s with timer := { s.timer with tima := tima }, irq := { s.irq with ifReg := ifReg } } := by
  induction n generalizing s with
  | zero => exact ⟨_, _, rfl⟩
  | succ n ih =>
    obtain ⟨tima, ifReg, loop⟩ := ih (timaStep s)
    refine ⟨tima, ifReg, loop.trans ?_⟩
    unfold timaStep
    split <;> rfl

theorem divTick_eq (n : Nat) (s : State) :
    divTick n s = s.setCounters (s.timer.div + BitVec.ofNat 8 ((s.timer.divCounter + n) / 256))
      ((s.timer.divCounter + n) % 256) s.timer.timaCounter := rfl

theorem timaTick_off (n : Nat) {s : State} (off : s.timer.tac.getLsbD 2 = false) : timaTick n s = s :=
  if_neg (by rw [off]; decide)

theorem timaTick_on (n : Nat) {s : State} (on : s.timer.tac.getLsbD 2 = true) :
    timaTick n s = (timaSteps ((s.timer.timaCounter + n) / timerPeriod s.timer.tac) s).setCounters s.timer.div
      s.timer.divCounter ((s.timer.timaCounter + n) % timerPeriod s.timer.tac) := by
  obtain ⟨tima, ifReg, loop⟩ := timaSteps_frame ((s.timer.timaCounter + n) / timerPeriod s.timer.tac) s
  refine (if_pos on).trans ?_
  dsimp only
  rw [loop]
  rfl

/-- The TIMA half of a tick leaves everything but TIMA, its counter and IF as it was, and the counter is a remainder. -/
theorem timaTick_frame (n : Nat) (s : State) : ∃ tima count ifReg,
    timaTick n s =
      { s with timer := { s.timer with tima := tima, timaCounter := count }, irq := { s.irq with ifReg := ifReg } } ∧
    (count = s.timer.timaCounter ∨ count < timerPeriod s.timer.tac) := by
  cases on : s.timer.tac.getLsbD 2
  case false => exact ⟨s.timer.tima, s.timer.timaCounter, s.irq.ifReg, timaTick_off n on, .inl rfl⟩
  case true =>
    obtain ⟨tima, ifReg, loop⟩ := timaSteps_frame ((s.timer.timaCounter + n) / timerPeriod s.timer.tac) s
    refine ⟨tima, (s.timer.timaCounter + n) % timerPeriod s.timer.tac, ifReg, ?_, .inr (Nat.mod_lt _ (timerPeriod_bounds _).1)⟩
    rw [timaTick_on n on, loop]
    rfl

/-! ### Cycles given in parts or at once -/

/-- A quotient and a remainder taken in two parts. -/
theorem div_mod_in_parts (c m n p : Nat) :
    (c + m) / p + ((c + m) % p + n) / p = (c + (m + n)) / p ∧ ((c + m) % p + n) % p = (c + (m + n)) % p := by
  rcases Nat.eq_zero_or_pos p with rfl | pos
  · simp [Nat.add_assoc]
  · constructor
    · rw [← Nat.mul_add_div pos, ← Nat.add_assoc, Nat.div_add_mod, Nat.add_assoc]
    · rw [Nat.mod_add_mod, Nat.add_assoc]

theorem timaSteps_add (m n : Nat) (s : State) : timaSteps n (timaSteps m s) = timaSteps (m + n) s := by
  induction m generalizing s with
  | zero => rw [Nat.zero_add]; rfl
  | succ m ih => rw [timaSteps, ih, Nat.succ_add]; rfl

theorem divTick_add (m n : Nat) (s : State) : divTick n (divTick m s) = divTick (m + n) s := by
  obtain ⟨quotient, rest⟩ := div_mod_in_parts s.timer.divCounter m n 256
  simp [divTick_eq, BitVec.add_assoc, ← BitVec.ofNat_add, quotient, rest]

theorem timaTick_add (m n : Nat) (s : State) : timaTick n (timaTick m s) = timaTick (m + n) s := by
  cases on : s.timer.tac.getLsbD 2
  case false => rw [timaTick_off m on, timaTick_off n on, timaTick_off (m + n) on]
  case true =>
    obtain ⟨quotient, rest⟩ := div_mod_in_parts s.timer.timaCounter m n (timerPeriod s.timer.tac)
    obtain ⟨tima, ifReg, loop⟩ := timaSteps_frame ((s.timer.timaCounter + m) / timerPeriod s.timer.tac) s
    have tac : (timaSteps ((s.timer.timaCounter + m) / timerPeriod s.timer.tac) s).timer.tac = s.timer.tac := by rw [loop]
    rw [timaTick_on m on, timaTick_on (m + n) on, timaTick_on n (by rw [setCounters_tac, tac, on])]
    simp [tac, timaSteps_setCounters, timaSteps_add, quotient, rest]

/-- The two halves do not look at each other's fields. -/
theorem timaTick_divTick (m n : Nat) (s : State) : timaTick n (divTick m s) = divTick m (timaTick n s) := by
  cases on : s.timer.tac.getLsbD 2
  case false => rw [timaTick_off n on, timaTick_off n (by exact on)]
  case true =>
    rw [timaTick_on n on, timaTick_on n (by exact on)]
    simp [divTick_eq, timaSteps_setCounters]

theorem timerTick_add (m n : Nat) (s : State) : timerTick n (timerTick m s) = timerTick (m + n) s := by
  rw [timerTick, timerTick, timerTick, ← timaTick_divTick, divTick_add, timaTick_add]

/-! ### TIMA's count and its reload -/

/-- Short of 256, TIMA counts on and nothing is requested. -/
theorem timaSteps_of_le (k : Nat) (s : State) (h : s.timer.tima.toNat + k ≤ 255) :
    timaSteps k s = { s with timer := { s.timer with tima := s.timer.tima + BitVec.ofNat 8 k } } := by
  induction k generalizing s with
  | zero => simp [timaSteps]
  | succ k ih =>
    have below : s.timer.tima ≠ 0xFF := by intro full; simp [full] at h
    have next : (s.timer.tima + 1).toNat = s.timer.tima.toNat + 1 := by rw [BitVec.toNat_add]; simp; omega
    rw [timaSteps, timaStep, if_neg below, ih _ (by dsimp only; omega)]
    dsimp only
    rw [BitVec.add_assoc, Nat.add_comm k 1, BitVec.ofNat_add]
    rfl

/-- At 256, TIMA takes TMA's byte and the timer interrupt is requested (R392). -/
theorem timaSteps_reload (s : State) :
    timaSteps (256 - s.timer.tima.toNat) s =
      requestInterrupt .timer { s with timer := { s.timer with tima := s.timer.tma } } := by
  have fits := s.timer.tima.isLt
  have full : s.timer.tima + BitVec.ofNat 8 (255 - s.timer.tima.toNat) = 0xFF := by
    apply BitVec.eq_of_toNat_eq; rw [BitVec.toNat_add]; simp; omega
  rw [show 256 - s.timer.tima.toNat = (255 - s.timer.tima.toNat) + 1 by omega, ← timaSteps_add,
    timaSteps_of_le _ s (by omega), full]
  rfl

/-- Settles O43: parts add up, DIV counts by remainder, and the TIMA loop runs short of its first reload or just to it. -/
theorem timerCounts : Obligations.TimerCounts := by
  refine ⟨timerTick_add, fun n s bound => ?div, fun n s => ?tima⟩
  case div =>
    obtain ⟨tima, count, ifReg, frame, -⟩ := timaTick_frame n (divTick n s)
    rw [timerTick, frame]
    refine ⟨Nat.le_of_lt_succ (Nat.mod_lt _ (by decide)), ?_⟩
    simp only [divTick, BitVec.toNat_add, BitVec.toNat_ofNat]
    omega
  case tima =>
    obtain ⟨tima, count, ifReg, frame, -⟩ := timaTick_frame n (divTick n s)
    dsimp only
    rw [← timerPeriod_eq]
    refine ⟨?tma, ?tac, ?ie, fun off => ?off, fun on => ?on⟩
    case tma | tac | ie => rw [timerTick, frame]; rfl
    case off =>
      rw [timerTick, timaTick_off n (by exact off)]
      exact ⟨rfl, rfl, rfl⟩
    case on =>
      rw [timerTick, timaTick_on n (by exact on), divTick_eq, timaSteps_setCounters]
      refine ⟨rfl, fun short => ?_, fun full => ?_⟩
      · rw [setCounters_timaCounter, setCounters_tac, timaSteps_of_le _ s short]
        refine ⟨?_, rfl⟩
        simp [BitVec.toNat_add]
        omega
      · rw [setCounters_timaCounter, setCounters_tac, full, timaSteps_reload]
        exact ⟨rfl, rfl⟩

end Sys2Proof.Machine

/-! ## The PPU as cycles pass: what a pass of its loop leaves alone -/

namespace Sys2Proof.Machine

/-- From `s` to `t` the PPU ran: the timer, the DMA window and the registers it only reads stay, and the stores stay
canonical. -/
structure PpuFrame (s t : State) : Prop where
  timer : t.timer = s.timer
  dma : t.dma = s.dma
  lcdc : t.ppu.lcdc = s.ppu.lcdc
  statEn : t.ppu.statEn = s.ppu.statEn
  lyc : t.ppu.lyc = s.ppu.lyc
  stores : StoresWf s → StoresWf t

theorem PpuFrame.refl (s : State) : PpuFrame s s := ⟨rfl, rfl, rfl, rfl, rfl, id⟩

theorem PpuFrame.trans {a b c : State} (h : PpuFrame a b) (g : PpuFrame b c) : PpuFrame a c :=
  ⟨g.timer.trans h.timer, g.dma.trans h.dma, g.lcdc.trans h.lcdc, g.statEn.trans h.statEn, g.lyc.trans h.lyc,
    g.stores ∘ h.stores⟩

theorem ppuFrame_ppu {s : State} {p : Ppu} (lcdc : p.lcdc = s.ppu.lcdc := by rfl) (statEn : p.statEn = s.ppu.statEn := by rfl)
    (lyc : p.lyc = s.ppu.lyc := by rfl) : PpuFrame s { s with ppu := p } := ⟨rfl, rfl, lcdc, statEn, lyc, id⟩

theorem ppuFrame_requestIf (b : Bool) (i : Source) (s : State) : PpuFrame s (requestIf b i s) := by
  cases b <;> exact ⟨rfl, rfl, rfl, rfl, rfl, id⟩

theorem ppuFrame_requestStat (k : Nat) (s : State) : PpuFrame s (requestStat k s) := ppuFrame_requestIf _ _ _

theorem ppuFrame_lycCheck (s : State) : PpuFrame s (lycCheck s) := ppuFrame_requestIf _ _ _

/-- Line pixels go to the framebuffer and nowhere else. -/
theorem putPixels_eq (n : Nat) (l : List Rgb) (s : State) :
    putPixels n l s = { s with mem := { s.mem with framebuffer := (putPixels n l s).mem.framebuffer } } := by
  induction l generalizing n s with
  | nil => rfl
  | cons c l ih => rw [putPixels, ih]; rfl

theorem storesWf_putPixels (n : Nat) (l : List Rgb) (s : State) (h : StoresWf s) : StoresWf (putPixels n l s) := by
  induction l generalizing n s with
  | nil => exact h
  | cons c l ih => exact ih _ _ (storesWf_poke _ _ _ _ (storesWf_poke _ _ _ _ (storesWf_poke _ _ _ _ h)))

/-- A rendered line changes the framebuffer, the priority map and the window line (R420). -/
theorem renderScanline_eq (ly : Nat) (s : State) :
    renderScanline ly s =
      { s with mem := { s.mem with framebuffer := (renderScanline ly s).mem.framebuffer }
               ppu := { s.ppu with
                        bgPrio := (linePixels s ly).map (·.2)
                        windowLine := if windowDrawn s ly then s.ppu.windowLine + 1 else s.ppu.windowLine } } := by
  unfold renderScanline
  dsimp only
  rw [putPixels_eq]

theorem renderScanline_mem (ly : Nat) (s : State) :
    (renderScanline ly s).mem = (putPixels (ly * 160) ((linePixels s ly).map (·.1)) s).mem := rfl

theorem ppuFrame_renderScanline (ly : Nat) (s : State) : PpuFrame s (renderScanline ly s) where
  timer := by rw [renderScanline_eq]
  dma := by rw [renderScanline_eq]
  lcdc := by rw [renderScanline_eq]
  statEn := by rw [renderScanline_eq]
  lyc := by rw [renderScanline_eq]
  stores h := storesWf_congr _ _ (renderScanline_mem ly s) (storesWf_putPixels _ _ s h)

theorem ppuFrame_enterHBlank (s : State) : PpuFrame s (enterHBlank s) :=
  ((ppuFrame_renderScanline _ _).trans ppuFrame_ppu).trans (ppuFrame_requestStat _ _)

theorem ppuFrame_endVisibleLine (s : State) : PpuFrame s (endVisibleLine s) := by
  unfold endVisibleLine
  dsimp only
  refine .trans ?_ (ppuFrame_lycCheck _)
  split
  · refine .trans ?_ (ppuFrame_requestStat _ _)
    exact ⟨rfl, rfl, rfl, rfl, rfl, id⟩
  · exact .trans (ppuFrame_ppu (s := s)) (ppuFrame_requestStat _ _)

theorem ppuFrame_endVBlankLine (s : State) : PpuFrame s (endVBlankLine s) := by
  unfold endVBlankLine
  dsimp only
  refine .trans ?_ (ppuFrame_lycCheck _)
  split
  · exact .trans (ppuFrame_ppu (s := s)) (ppuFrame_requestStat _ _)
  · exact ppuFrame_ppu (s := s)

theorem ppuFrame_ppuAdvance {s t : State} (h : ppuAdvance s = some t) : PpuFrame s t := by
  rcases ppuAdvance_cases s t h with ⟨-, -, -, rfl⟩ | ⟨-, -, -, rfl⟩ | ⟨-, -, -, rfl⟩ | ⟨-, -, rfl⟩
  · exact ppuFrame_ppu (s := s)
  · exact ppuFrame_enterHBlank s
  · exact ppuFrame_endVisibleLine s
  · exact ppuFrame_endVBlankLine s

/-- The state whose scan counter has counted `n` cycles, before any pass. -/
def State.counted (n : Nat) (s : State) : State := { s with ppu := { s.ppu with scanCounter := s.ppu.scanCounter + n } }

@[simp] theorem counted_ly (n : Nat) (s : State) : (s.counted n).ppu.ly = s.ppu.ly := rfl

theorem ppuTick_on (n : Nat) {s : State} (on : s.ppu.lcdc.getLsbD 7 = true) :
    ppuTick n s = ppuLoop (ppuFuel (s.counted n).ppu.scanCounter) (s.counted n) := if_pos on

/-- With the LCD off a tick changes nothing (R410). -/
theorem ppuTick_off (n : Nat) {s : State} (off : s.ppu.lcdc.getLsbD 7 = false) : ppuTick n s = s :=
  if_neg (by rw [off]; decide)

section
variable {s : State} {n : Nat} (on : s.ppu.lcdc.getLsbD 7 = true) (mode : ModeOk s) (ly : s.ppu.ly.toNat ≤ 153)
include on mode

/-- With the LCD on, the mode agreeing with the position is R411's function of it. -/
theorem mode_eq_of_modeOk : s.ppu.mode = modeAt s.ppu.ly s.ppu.scanCounter := by
  rwa [ModeOk, if_pos on] at mode

include ly

/-- A property of the state with the cycles counted that every pass keeps holds after the tick, and the tick ends where the
mode is the one of its dot. -/
theorem ppuTick_keeps (P : State → Prop) (pass : ∀ u t, ppuAdvance u = some t → Segment u.ppu → P u → P t)
    (h : P (s.counted n)) :
    P (ppuTick n s) ∧ ppuAdvance (ppuTick n s) = none ∧ (ppuTick n s).ppu.scanCounter ≤ 455 ∧
      (ppuTick n s).ppu.ly.toNat ≤ 153 ∧
      (ppuTick n s).ppu.mode = modeAt (ppuTick n s).ppu.ly (ppuTick n s).ppu.scanCounter := by
  have seg := segment_of_mode s.ppu n (mode_eq_of_modeOk on mode) ly
  rw [ppuTick_on n on]
  obtain ⟨holds, segment, done⟩ := ppuLoop_keeps P pass _ _ seg (passesLeft_lt_fuel _) h
  exact ⟨holds, done, segment_done _ segment done⟩

theorem ppuFrame_ppuTick : PpuFrame s (ppuTick n s) := by
  obtain ⟨frame, -⟩ := ppuTick_keeps (n := n) on mode ly (PpuFrame s) (fun _ _ pass _ h => h.trans (ppuFrame_ppuAdvance pass))
    ⟨rfl, rfl, rfl, rfl, rfl, id⟩
  exact frame

end

end Sys2Proof.Machine

/-! ## The invariant (O56): bus writes, CPU changes and the devices keep it -/

namespace Sys2Proof.Machine

/-- An LCDC write that turns the LCD on or off sets the position and mode of the new state; any other keeps both (R98). -/
theorem inv_writeLcdc (v : Byte) (s : State) (h : Inv s) : Inv (writeLcdc v s) := by
  cases old : s.ppu.lcdc.getLsbD 7 <;> cases new : v.getLsbD 7
  case false.false | true.true =>
    rw [writeLcdc_kept v s (old.trans new.symm)]
    have mode := h.mode
    rw [ModeOk, old.trans new.symm] at mode
    exact { h with mode := mode }
  case true.false =>
    rw [writeLcdc_off v s old new]
    exact { h with mode := by simp only [ModeOk, new]; decide, ly := Nat.zero_le _, scan := Nat.zero_le _ }
  case false.true =>
    rw [writeLcdc_on v s old new]
    exact { h with mode := by simp only [ModeOk, new]; decide, ly := Nat.zero_le _, scan := Nat.zero_le _ }

theorem inv_memWrite (s : State) (a : Word) (v : Byte) (h : Inv s) : Inv (memWrite a v s) := by
  have stores := memWrite_storesWf a v s h.stores
  revert stores
  apply memWrite_cases (P := fun t => StoresWf t → Inv t)
  case lcdc => exact fun _ => inv_writeLcdc v s h
  case timer =>
    intro x div tima stores
    exact { h with div := div.trans h.div, tima := tima.trans_le h.tima, stores := stores }
  case ppu =>
    intro x lcdc ly scan mode _ _ _ stores
    refine { h with mode := ?_, ly := ly ▸ h.ly, scan := scan.trans_le h.scan, stores := stores }
    simpa only [ModeOk, lcdc, ly, scan, mode] using h.mode
  case dma =>
    intro stores
    obtain ⟨oam, frame⟩ := startDma_keeps v s
    rw [frame] at stores ⊢
    exact { h with dma := Nat.le_refl 640, stores := stores }
  all_goals intros; exact { h with stores := ‹_› }

theorem inv_timerTick (n : Nat) (s : State) (h : Inv s) : Inv (timerTick n s) := by
  obtain ⟨tima, count, ifReg, frame, bound⟩ := timaTick_frame n (divTick n s)
  have period := (timerPeriod_bounds s.timer.tac).2
  rw [timerTick, frame]
  exact { h with
    div := Nat.le_of_lt_succ (Nat.mod_lt _ (by decide))
    tima := bound.elim (fun kept => kept.trans_le h.tima) (fun rest => Nat.le_of_lt_succ (rest.trans_le period)) }

/-- The PPU's loop ends where the mode is the one of its position, which is R403 (3). -/
theorem inv_ppuTick (n : Nat) (s : State) (h : Inv s) : Inv (ppuTick n s) := by
  cases lcd : s.ppu.lcdc.getLsbD 7
  case false => rwa [ppuTick_off n lcd]
  case true =>
    obtain ⟨-, -, scan, ly, mode⟩ := ppuTick_keeps (n := n) lcd h.mode h.ly (fun _ => True) (fun _ _ _ _ => id) trivial
    have frame := ppuFrame_ppuTick (n := n) lcd h.mode h.ly
    exact {
      fLow := by rw [(deviceFrame_ppuTick n s).cpu]; exact h.fLow
      mode := by rw [ModeOk, frame.lcdc, if_pos lcd]; exact mode
      ly := ly
      scan := scan
      div := frame.timer ▸ h.div
      tima := frame.timer ▸ h.tima
      dma := frame.dma ▸ h.dma
      stores := frame.stores h.stores }

theorem inv_tick (n : Nat) (s : State) (h : Inv s) : Inv (tick n s) := by
  unfold tick
  split
  · exact h
  · exact inv_ppuTick n _ (inv_timerTick n _ { h with dma := (Nat.sub_le _ n).trans h.dma })

/-- Settles O56: each part a step is made of keeps the invariant. -/
theorem stepKeepsInvariant : Obligations.StepKeepsInvariant := fun s t =>
  step_keeps Inv
    (cpu := fun _ _ low h => { h with fLow := low h.fLow })
    (write := inv_memWrite)
    (irq := fun _ _ h => { h with })
    (free := fun _ _ h => { h with })
    (ticks := inv_tick)
    s t

end Sys2Proof.Machine

/-! ## The position in the frame (O44): a pass moves it by whole frames, and the loop ends inside a mode -/

namespace Sys2Proof.Machine

/-- The position in the frame, in cycles from its start. -/
def position (p : Ppu) : Nat := p.ly.toNat * 456 + p.scanCounter

theorem position_ppuAdvance {u t : State} (pass : ppuAdvance u = some t) (seg : Segment u.ppu) :
    position t.ppu % 70224 = position u.ppu % 70224 := by
  obtain ⟨-, -, moved⟩ := ppuAdvance_segment u t pass seg
  unfold position
  omega

/-- Settles O44: no pass changes the position modulo a frame, and the loop ends where the mode is the one of the dot. -/
theorem lcdPositionAndMode : Obligations.LcdPositionAndMode := by
  refine ⟨fun n s on mode ly _ => ?on, fun n s off => ppuTick_off n off, rfl, rfl, rfl, rfl⟩
  case on =>
    obtain ⟨moved, -, scan, ly', mode'⟩ := ppuTick_keeps (n := n) on mode ly
      (fun u => position u.ppu % 70224 = (position s.ppu + n) % 70224)
      (fun u t pass seg kept => (position_ppuAdvance pass seg).trans kept) (congrArg (· % 70224) (Nat.add_assoc _ _ _).symm)
    unfold position at moved
    dsimp only
    refine ⟨by omega, ly', scan, (ppuFrame_ppuTick on mode ly).lcdc, fun h => ?_, fun h h1 => ?_, fun h h1 h2 => ?_, fun h h1 => ?_⟩
    · rw [mode', modeAt, if_pos h]
    · rw [mode', modeAt, if_neg (by omega), if_pos h1]
    · rw [mode', modeAt, if_neg (by omega), if_neg (by omega), if_pos h2]
    · rw [mode', modeAt, if_neg (by omega), if_neg (by omega), if_neg (by omega)]

end Sys2Proof.Machine

/-! ## The events of the frame (O45): each pass comes to one point of the clock and requests what that point asks for -/

namespace Sys2Proof.Machine

/-! ### A clock that runs over points of the frame -/

/-- A clock at `start` that runs `n` more comes to a point of the frame where `Q` holds. -/
def Comes (Q : Nat → Prop) (start n : Nat) : Prop := ∃ c, start < c ∧ c ≤ start + n ∧ Q (c % 70224)

theorem passes_iff_comes {p : Nat} (hp : p < 70224) (start n : Nat) : Passes p start n ↔ Comes (· = p) start n := by
  constructor
  · rintro ⟨k, after, within⟩
    exact ⟨p + 70224 * k, after, within, by omega⟩
  · rintro ⟨c, after, within, rfl⟩
    exact ⟨c / 70224, by omega, by omega⟩

theorem comes_add (Q : Nat → Prop) (start m n : Nat) : Comes Q start (m + n) ↔ Comes Q start m ∨ Comes Q (start + m) n := by
  constructor
  · rintro ⟨c, after, within, point⟩
    by_cases early : c ≤ start + m
    · exact .inl ⟨c, after, early, point⟩
    · exact .inr ⟨c, by omega, by omega, point⟩
  · rintro (⟨c, after, within, point⟩ | ⟨c, after, within, point⟩)
    · exact ⟨c, after, by omega, point⟩
    · exact ⟨c, by omega, by omega, point⟩

/-- The points at which the PPU can request anything: the start of a line, and of mode 0 on a visible one. -/
def Boundary (x : Nat) : Prop := x % 456 = 0 ∨ (x % 456 = 252 ∧ x / 456 ≤ 143)

/-- Where `Q` holds at boundaries alone, a run to the next one comes to `Q` when that one is in `Q`. -/
theorem comes_next {Q : Nat → Prop} (hQ : ∀ x, Q x → Boundary x) {start n : Nat} (pos : 0 < n)
    (between : ∀ c, start < c → c < start + n → ¬Boundary (c % 70224)) : Comes Q start n ↔ Q ((start + n) % 70224) := by
  constructor
  · rintro ⟨c, after, within, point⟩
    rcases Nat.lt_or_eq_of_le within with early | rfl
    · exact absurd (hQ _ point) (between c after early)
    · exact point
  · exact fun point => ⟨start + n, by omega, Nat.le_refl _, point⟩

theorem not_comes {Q : Nat → Prop} (hQ : ∀ x, Q x → Boundary x) {start n : Nat}
    (between : ∀ c, start < c → c ≤ start + n → ¬Boundary (c % 70224)) : ¬Comes Q start n :=
  fun ⟨c, after, within, point⟩ => between c after within (hQ _ point)

/-- The point that requests V-Blank and emits the frame (R412, R415). -/
def VBlankPoint (x : Nat) : Prop := x = 456 * 144

/-- The points that request STAT under the enable bits and LYC (R413, R414). -/
def StatPoint (statEn : BitVec 4) (lyc : Byte) (x : Nat) : Prop :=
  (statEn.getLsbD 0 = true ∧ x % 456 = 252 ∧ x / 456 ≤ 143) ∨ (statEn.getLsbD 1 = true ∧ x = 456 * 144) ∨
  (statEn.getLsbD 2 = true ∧ x % 456 = 0 ∧ x / 456 ≤ 143) ∨ (statEn.getLsbD 3 = true ∧ x = 456 * lyc.toNat)

theorem boundary_of_vblankPoint (x : Nat) (h : VBlankPoint x) : Boundary x := .inl (by rw [h])

theorem boundary_of_statPoint (statEn : BitVec 4) (lyc : Byte) (x : Nat) (h : StatPoint statEn lyc x) : Boundary x := by
  rcases h with ⟨-, h⟩ | ⟨-, rfl⟩ | ⟨-, h, -⟩ | ⟨-, rfl⟩
  · exact .inr h
  · exact .inl rfl
  · exact .inl h
  · exact .inl (Nat.mul_mod_right _ _)

theorem vblankPoint_iff {line dot : Nat} (hd : dot < 456) : VBlankPoint (456 * line + dot) ↔ line = 144 ∧ dot = 0 := by
  unfold VBlankPoint
  omega

theorem statPoint_iff (statEn : BitVec 4) (lyc : Byte) {line dot : Nat} (hd : dot < 456) :
    StatPoint statEn lyc (456 * line + dot) ↔
      (statEn.getLsbD 0 = true ∧ dot = 252 ∧ line ≤ 143) ∨ (statEn.getLsbD 1 = true ∧ line = 144 ∧ dot = 0) ∨
      (statEn.getLsbD 2 = true ∧ dot = 0 ∧ line ≤ 143) ∨ (statEn.getLsbD 3 = true ∧ line = lyc.toNat ∧ dot = 0) := by
  unfold StatPoint
  refine or_congr (and_congr_right fun _ => ?_) (or_congr (and_congr_right fun _ => ?_)
    (or_congr (and_congr_right fun _ => ?_) (and_congr_right fun _ => ?_))) <;> omega

/-! ### What one pass requests -/

/-- From `s` to `t` the V-Blank request and the frame were raised if `vblank`, the STAT request if `stat`, and no other. -/
structure Requested (vblank stat : Prop) (s t : State) : Prop where
  vblankBit : t.irq.ifReg.getLsbD 0 = true ↔ s.irq.ifReg.getLsbD 0 = true ∨ vblank
  frameReady : t.ppu.frameReady = true ↔ s.ppu.frameReady = true ∨ vblank
  statBit : t.irq.ifReg.getLsbD 1 = true ↔ s.irq.ifReg.getLsbD 1 = true ∨ stat
  otherBits : ∀ k, 2 ≤ k → t.irq.ifReg.getLsbD k = s.irq.ifReg.getLsbD k

theorem Requested.trans {v w a b : Prop} {s t u : State} (h : Requested v a s t) (g : Requested w b t u) :
    Requested (v ∨ w) (a ∨ b) s u where
  vblankBit := by rw [g.vblankBit, h.vblankBit, or_assoc]
  frameReady := by rw [g.frameReady, h.frameReady, or_assoc]
  statBit := by rw [g.statBit, h.statBit, or_assoc]
  otherBits k hk := (g.otherBits k hk).trans (h.otherBits k hk)

theorem Requested.congr {v w a b : Prop} {s t : State} (h : Requested v a s t) (hv : v ↔ w) (ha : a ↔ b) :
    Requested w b s t := by
  rwa [propext hv, propext ha] at h

theorem requested_of_bits {v a : Bool} {s t : State}
    (bits : ∀ k < 5, t.irq.ifReg.getLsbD k =
      (s.irq.ifReg.getLsbD k || (v && decide (k = 0)) || (a && decide (k = 1))))
    (frame : t.ppu.frameReady = (s.ppu.frameReady || v)) : Requested (v = true) (a = true) s t where
  vblankBit := by rw [bits 0 (by decide)]; simp
  frameReady := by rw [frame, Bool.or_eq_true]
  statBit := by rw [bits 1 (by decide)]; simp
  otherBits k hk := by
    by_cases low : k < 5
    · simp [bits k low, show k ≠ 0 by omega, show k ≠ 1 by omega]
    · rw [BitVec.getLsbD_of_ge _ k (by omega), BitVec.getLsbD_of_ge _ k (by omega)]

theorem requested_enterTransfer (s : State) : Requested False False s (enterTransfer s) where
  vblankBit := (or_false _).symm.to_iff
  frameReady := (or_false _).symm.to_iff
  statBit := (or_false _).symm.to_iff
  otherBits _ _ := rfl

theorem requested_enterHBlank (s : State) : Requested False (s.ppu.statEn.getLsbD 0 = true) s (enterHBlank s) := by
  refine (requested_of_bits (v := false) (fun k hk => ?_) ?_).congr Bool.false_eq_true.to_iff Iff.rfl
  · rw [enterHBlank_bit s k hk, Bool.false_and, Bool.or_false]
  · obtain ⟨prio, line, after⟩ := enterHBlank_ppu s
    rw [after, Bool.or_false]

/-- V-Blank begins after line 143; STAT asks for mode 1 there, for mode 2 after an earlier line, and for the LYC match. -/
theorem requested_endVisibleLine {s : State} (visible : s.ppu.ly.toNat ≤ 143) :
    Requested (s.ppu.ly.toNat = 143)
      ((s.ppu.ly.toNat = 143 ∧ s.ppu.statEn.getLsbD 1 = true) ∨ (s.ppu.ly.toNat ≠ 143 ∧ s.ppu.statEn.getLsbD 2 = true) ∨
        (s.ppu.lyc.toNat = s.ppu.ly.toNat + 1 ∧ s.ppu.statEn.getLsbD 3 = true)) s (endVisibleLine s) := by
  have last : s.ppu.ly + 1 = 144 ↔ s.ppu.ly.toNat = 143 := by
    rw [← BitVec.toNat_inj, BitVec.toNat_add]; simp; omega
  refine (requested_of_bits (v := decide (s.ppu.ly.toNat = 143))
    (a := decide (s.ppu.ly.toNat = 143) && s.ppu.statEn.getLsbD 1 || !decide (s.ppu.ly.toNat = 143) && s.ppu.statEn.getLsbD 2 ||
      decide (s.ppu.lyc.toNat = s.ppu.ly.toNat + 1) && s.ppu.statEn.getLsbD 3) (fun k hk => ?bits) ?frame).congr
    decide_eq_true_iff (by simp [or_assoc])
  case bits =>
    rw [endVisibleLine_bit s visible k hk]
    by_cases h143 : s.ppu.ly.toNat = 143 <;> simp [h143, Bool.and_or_distrib_right, Bool.or_assoc]
  case frame =>
    rw [endVisibleLine_ppu]
    by_cases h143 : s.ppu.ly.toNat = 143
    · rw [if_pos (last.2 h143)]; simp [h143]
    · rw [if_neg (mt last.1 h143)]; simp [h143]

/-- Line 0 after line 153 begins with mode 2; STAT asks for that and for the LYC match. -/
theorem requested_endVBlankLine {s : State} (inFrame : s.ppu.ly.toNat ≤ 153) :
    Requested False
      ((s.ppu.ly.toNat = 153 ∧ s.ppu.statEn.getLsbD 2 = true) ∨
        (s.ppu.lyc.toNat = (if s.ppu.ly.toNat = 153 then 0 else s.ppu.ly.toNat + 1) ∧ s.ppu.statEn.getLsbD 3 = true))
      s (endVBlankLine s) := by
  refine (requested_of_bits (v := false) (a := decide (s.ppu.ly.toNat = 153) && s.ppu.statEn.getLsbD 2 ||
      decide (s.ppu.lyc.toNat = if s.ppu.ly.toNat = 153 then 0 else s.ppu.ly.toNat + 1) && s.ppu.statEn.getLsbD 3)
    (fun k hk => ?bits) ?frame).congr Bool.false_eq_true.to_iff (by simp)
  case bits =>
    rw [endVBlankLine_bit s inFrame k hk, Bool.and_or_distrib_right, Bool.false_and, Bool.or_false, Bool.or_assoc]
  case frame =>
    rw [endVBlankLine_ppu, Bool.or_false]
    split <;> rfl

/-! ### The clock and the passes -/

/-- What is left of a run of `n` cycles from `s` where the loop stands at `u`: the clock has come `m` cycles, to dot `dot`
of LY's line in the mode of `u`, and everything it came to is requested. -/
structure Reached (s u : State) (n m frame dot : Nat) : Prop where
  clock : 456 * s.ppu.ly.toNat + s.ppu.scanCounter + m = 70224 * frame + 456 * u.ppu.ly.toNat + dot
  left : u.ppu.scanCounter + m = dot + n
  ahead : m ≤ n
  mode : u.ppu.mode = modeAt u.ppu.ly dot
  inLine : dot ≤ 455
  inFrame : u.ppu.ly.toNat ≤ 153
  kept : PpuFrame s u
  requested : Requested (Comes VBlankPoint (456 * s.ppu.ly.toNat + s.ppu.scanCounter) m)
    (Comes (StatPoint s.ppu.statEn s.ppu.lyc) (456 * s.ppu.ly.toNat + s.ppu.scanCounter) m) s u

/-- The range of dots of each mode, on a line of the frame. -/
theorem modeAt_iff (ly : Byte) (dot : Nat) :
    (modeAt ly dot = .vblank ↔ 144 ≤ ly.toNat) ∧ (modeAt ly dot = .oamScan ↔ ly.toNat ≤ 143 ∧ dot < 80) ∧
    (modeAt ly dot = .transfer ↔ ly.toNat ≤ 143 ∧ 80 ≤ dot ∧ dot < 252) ∧
    (modeAt ly dot = .hblank ↔ ly.toNat ≤ 143 ∧ 252 ≤ dot) := by
  unfold modeAt
  split
  · simp; omega
  · split
    · simp; omega
    · split
      · simp; omega
      · simp; omega

theorem toNat_add_one_of_lt {b : Byte} (h : b.toNat < 255) : (b + 1).toNat = b.toNat + 1 := by
  rw [BitVec.toNat_add]; simp; omega

/-- After a visible line the next one begins, in mode 2 or V-Blank. -/
theorem endVisibleLine_position {s : State} (visible : s.ppu.ly.toNat ≤ 143) :
    (endVisibleLine s).ppu.ly.toNat = s.ppu.ly.toNat + 1 ∧
    (endVisibleLine s).ppu.scanCounter = s.ppu.scanCounter - 456 ∧
    (endVisibleLine s).ppu.mode = modeAt (endVisibleLine s).ppu.ly 0 := by
  have next := toNat_add_one_of_lt (b := s.ppu.ly) (by omega)
  rw [endVisibleLine_ppu]
  split
  · next last => exact ⟨next, rfl, by rw [last]; rfl⟩
  · next inner =>
    have notLast : s.ppu.ly.toNat + 1 ≠ 144 := fun h => inner (BitVec.eq_of_toNat_eq (next.trans h))
    exact ⟨next, rfl, ((modeAt_iff _ _).2.1.2 ⟨by dsimp only; omega, by decide⟩).symm⟩

/-- After a V-Blank line the next one begins, or line 0 in mode 2. -/
theorem endVBlankLine_position {s : State} (inVBlank : 144 ≤ s.ppu.ly.toNat) (inFrame : s.ppu.ly.toNat ≤ 153)
    (mode : s.ppu.mode = .vblank) :
    (endVBlankLine s).ppu.ly.toNat = (if s.ppu.ly.toNat = 153 then 0 else s.ppu.ly.toNat + 1) ∧
    (endVBlankLine s).ppu.scanCounter = s.ppu.scanCounter - 456 ∧
    (endVBlankLine s).ppu.mode = modeAt (endVBlankLine s).ppu.ly 0 := by
  have next := toNat_add_one_of_lt (b := s.ppu.ly) (by omega)
  rw [endVBlankLine_ppu]
  split
  · next last => exact ⟨by rw [last]; rfl, rfl, rfl⟩
  · next inner =>
    have notLast : s.ppu.ly.toNat ≠ 153 := fun h => inner (BitVec.eq_of_toNat_eq h)
    exact ⟨by rw [if_neg notLast]; exact next, rfl, by rw [mode]; exact ((modeAt_iff _ _).1.2 (by dsimp only; omega)).symm⟩

/-- A pass takes the clock on to the next boundary, `x` in its frame, and requests what that one asks for. -/
theorem Reached.next {s u t : State} {n m frame dot x e frame' dot' : Nat} (h : Reached s u n m frame dot)
    (pass : ppuAdvance u = some t) (requests : Requested (VBlankPoint x) (StatPoint u.ppu.statEn u.ppu.lyc x) u t)
    (on : dot + e ≤ u.ppu.scanCounter) (pos : 0 < e)
    (point : 70224 * frame + 456 * u.ppu.ly.toNat + dot + e = 70224 * frame' + x)
    (place : x = 456 * t.ppu.ly.toNat + dot') (left : t.ppu.scanCounter + dot + e = u.ppu.scanCounter + dot')
    (between : ∀ c, 70224 * frame + 456 * u.ppu.ly.toNat + dot < c → c < 70224 * frame' + x → ¬Boundary (c % 70224))
    (mode : t.ppu.mode = modeAt t.ppu.ly dot') (inLine : dot' ≤ 455) (inFrame : t.ppu.ly.toNat ≤ 153) :
    Reached s t n (m + e) frame' dot' := by
  obtain ⟨clock, left', ahead, -, -, -, kept, requested⟩ := h
  have start : 456 * s.ppu.ly.toNat + s.ppu.scanCounter + (m + e) = 70224 * frame' + x := by omega
  have atPoint : (456 * s.ppu.ly.toNat + s.ppu.scanCounter + m + e) % 70224 = x := by omega
  have comes {Q : Nat → Prop} (hQ : ∀ x, Q x → Boundary x) :
      Comes Q (456 * s.ppu.ly.toNat + s.ppu.scanCounter) m ∨ Q x ↔
        Comes Q (456 * s.ppu.ly.toNat + s.ppu.scanCounter) (m + e) := by
    rw [comes_add, comes_next hQ pos (fun c after before => between c (by omega) (by omega)), atPoint]
  rw [kept.statEn, kept.lyc] at requests
  exact {
    clock := by omega
    left := by omega
    ahead := by omega
    mode := mode
    inLine := inLine
    inFrame := inFrame
    kept := kept.trans (ppuFrame_ppuAdvance pass)
    requested := (requested.trans requests).congr (comes boundary_of_vblankPoint) (comes (boundary_of_statPoint _ _)) }

/-- Every pass takes the clock on to the next boundary: mode 3, mode 0, the next line, or the first line of the next frame. -/
theorem Reached.pass {s u t : State} {n m frame dot : Nat} (h : Reached s u n m frame dot) (pass : ppuAdvance u = some t) :
    ∃ m frame dot, Reached s t n m frame dot := by
  obtain ⟨vblank, oamScan, transfer, hblank⟩ := modeAt_iff u.ppu.ly dot
  rw [← h.mode] at vblank oamScan transfer hblank
  have inLine := h.inLine
  have inFrame := h.inFrame
  rcases ppuAdvance_cases u t pass with ⟨ly, mode, scan, rfl⟩ | ⟨ly, mode, scan, rfl⟩ | ⟨ly, mode, scan, rfl⟩ | ⟨ly, scan, rfl⟩
  · obtain ⟨-, dots⟩ := oamScan.1 mode
    refine ⟨_, frame, 80, h.next (x := 456 * u.ppu.ly.toNat + 80) (e := 80 - dot) pass ?_ (by omega) (by omega) (by omega)
      rfl (by simp only [enterTransfer]; omega) (fun c after before => by unfold Boundary; omega)
      ((modeAt_iff _ _).2.2.1.2 ⟨ly, by omega, by omega⟩).symm (by omega) inFrame⟩
    exact (requested_enterTransfer u).congr (by simp [vblankPoint_iff]) (by simp [statPoint_iff])
  · obtain ⟨-, dots⟩ := transfer.1 mode
    obtain ⟨prio, line, after⟩ := enterHBlank_ppu u
    have requests := requested_enterHBlank u
    refine ⟨_, frame, 252, h.next (x := 456 * u.ppu.ly.toNat + 252) (e := 252 - dot) pass ?_ (by omega) (by omega) (by omega)
      (by rw [after]) (by rw [after]; dsimp only; omega) (fun c after before => by unfold Boundary; omega)
      (by rw [after]; exact ((modeAt_iff _ _).2.2.2.2 ⟨ly, by omega⟩).symm) (by omega) (by rw [after]; exact inFrame)⟩
    exact requests.congr (by simp [vblankPoint_iff]) (by simp [statPoint_iff, ly])
  · obtain ⟨-, dots⟩ := hblank.1 mode
    obtain ⟨ly', scan', mode'⟩ := endVisibleLine_position ly
    refine ⟨_, frame, 0, h.next (x := 456 * (u.ppu.ly.toNat + 1) + 0) (e := 456 - dot) pass ?_ (by omega) (by omega) (by omega)
      (by rw [ly']) (by omega) (fun c after before => by unfold Boundary; omega) mode' (by omega) (by omega)⟩
    refine (requested_endVisibleLine ly).congr ?_ ?_
    · rw [vblankPoint_iff (by omega)]; omega
    · rw [statPoint_iff _ _ (by omega)]; grind
  · obtain ⟨ly', scan', mode'⟩ := endVBlankLine_position ly inFrame (vblank.2 ly)
    have requests := requested_endVBlankLine inFrame
    by_cases last : u.ppu.ly.toNat = 153
    · rw [if_pos last] at ly' requests
      refine ⟨_, frame + 1, 0, h.next (x := 456 * 0 + 0) (e := 456 - dot) pass ?_ (by omega) (by omega) (by omega)
        (by rw [ly']) (by omega) (fun c after before => by unfold Boundary; omega) mode' (by omega) (by omega)⟩
      refine requests.congr ?_ ?_
      · rw [vblankPoint_iff (by omega)]
        exact ⟨False.elim, fun ⟨line, _⟩ => by omega⟩
      · rw [statPoint_iff _ _ (by omega)]; grind
    · rw [if_neg last] at ly' requests
      refine ⟨_, frame, 0, h.next (x := 456 * (u.ppu.ly.toNat + 1) + 0) (e := 456 - dot) pass ?_ (by omega) (by omega) (by omega)
        (by rw [ly']) (by omega) (fun c after before => by unfold Boundary; omega) mode' (by omega) (by omega)⟩
      refine requests.congr ?_ ?_
      · rw [vblankPoint_iff (by omega)]
        exact ⟨False.elim, fun ⟨line, _⟩ => by omega⟩
      · rw [statPoint_iff _ _ (by omega)]; grind

/-- Inside one mode of one line no pass is made. -/
theorem ppuAdvance_eq_none {s : State} (mode : s.ppu.mode = modeAt s.ppu.ly s.ppu.scanCounter) (inLine : s.ppu.scanCounter ≤ 455) :
    ppuAdvance s = none := by
  obtain ⟨vblank, oamScan, transfer, hblank⟩ := modeAt_iff s.ppu.ly s.ppu.scanCounter
  rw [← mode] at vblank oamScan transfer hblank
  by_contra h
  obtain ⟨t, pass⟩ := Option.ne_none_iff_exists'.1 h
  rcases ppuAdvance_cases s t pass with ⟨-, m, scan, -⟩ | ⟨-, m, scan, -⟩ | ⟨-, m, scan, -⟩ | ⟨-, scan, -⟩
  · have := oamScan.1 m; omega
  · have := transfer.1 m; omega
  · omega
  · omega

theorem ppuLoop_of_none (fuel : Nat) {s : State} (done : ppuAdvance s = none) : ppuLoop fuel s = s := by
  cases fuel with
  | zero => rfl
  | succ fuel => rw [ppuLoop, done]

/-- Between two dots of one mode lies no boundary. -/
theorem not_boundary_of_modeAt_eq {ly : Byte} {dot dot' : Nat} (same : modeAt ly dot = modeAt ly dot') (inFrame : ly.toNat ≤ 153)
    (inLine : dot' ≤ 455) (frame c : Nat) (after : 70224 * frame + 456 * ly.toNat + dot < c)
    (within : c ≤ 70224 * frame + 456 * ly.toNat + dot') : ¬Boundary (c % 70224) := by
  obtain ⟨vblank, oamScan, transfer, hblank⟩ := modeAt_iff ly dot'
  obtain ⟨vblank₀, oamScan₀, transfer₀, hblank₀⟩ := modeAt_iff ly dot
  rw [same] at vblank₀ oamScan₀ transfer₀ hblank₀
  unfold Boundary
  cases mode : modeAt ly dot' with
  | vblank => have := vblank.1 mode; omega
  | oamScan => have := oamScan.1 mode; omega
  | transfer => have := transfer.1 mode; have := transfer₀.1 mode; omega
  | hblank => have := hblank₀.1 mode; omega

/-- A tick requests what the points of the frame it comes to ask for. -/
theorem requested_ppuTick {s : State} {n : Nat} (on : s.ppu.lcdc.getLsbD 7 = true) (mode : ModeOk s)
    (ly : s.ppu.ly.toNat ≤ 153) (scan : s.ppu.scanCounter ≤ 455) :
    Requested (Comes VBlankPoint (456 * s.ppu.ly.toNat + s.ppu.scanCounter) n)
      (Comes (StatPoint s.ppu.statEn s.ppu.lyc) (456 * s.ppu.ly.toNat + s.ppu.scanCounter) n) s (ppuTick n s) := by
  have nothing (Q : Nat → Prop) : False ↔ Comes Q (456 * s.ppu.ly.toNat + s.ppu.scanCounter) 0 :=
    ⟨False.elim, fun ⟨c, after, before, _⟩ => by omega⟩
  obtain ⟨⟨m, frame, dot, reached⟩, -, scan', -, mode'⟩ := ppuTick_keeps (n := n) on mode ly
    (fun u => ∃ m frame dot, Reached s u n m frame dot) (fun u t pass _ ⟨_, _, _, h⟩ => h.pass pass)
    ⟨0, 0, s.ppu.scanCounter, {
      clock := by rw [counted_ly]; omega
      left := rfl
      ahead := Nat.zero_le n
      mode := mode_eq_of_modeOk on mode
      inLine := scan
      inFrame := ly
      kept := ppuFrame_ppu
      requested := .congr ⟨(or_false _).symm.to_iff, (or_false _).symm.to_iff, (or_false _).symm.to_iff, fun _ _ => rfl⟩
        (nothing _) (nothing _) }⟩
  have run : n = m + (n - m) := (Nat.add_sub_cancel' reached.ahead).symm
  have clock := reached.clock
  have left := reached.left
  have between : ∀ c, 456 * s.ppu.ly.toNat + s.ppu.scanCounter + m < c →
      c ≤ 456 * s.ppu.ly.toNat + s.ppu.scanCounter + m + (n - m) → ¬Boundary (c % 70224) := fun c after within =>
    not_boundary_of_modeAt_eq (reached.mode.symm.trans mode') reached.inFrame scan' frame c (by omega) (by omega)
  have comes {Q : Nat → Prop} (hQ : ∀ x, Q x → Boundary x) :
      Comes Q (456 * s.ppu.ly.toNat + s.ppu.scanCounter) m ↔ Comes Q (456 * s.ppu.ly.toNat + s.ppu.scanCounter) n := by
    rw [run, comes_add, or_iff_left (not_comes hQ between)]
  exact reached.requested.congr (comes boundary_of_vblankPoint) (comes (boundary_of_statPoint _ _))

/-- The points that request STAT, listed as O45 lists them. -/
theorem comes_statPoint_iff (statEn : BitVec 4) (lyc : Byte) (start n : Nat) : Comes (StatPoint statEn lyc) start n ↔
    (statEn.getLsbD 0 = true ∧ ∃ line ≤ 143, Passes (456 * line + 252) start n) ∨
    (statEn.getLsbD 1 = true ∧ Passes (456 * 144 + 0) start n) ∨
    (statEn.getLsbD 2 = true ∧ ∃ line ≤ 143, Passes (456 * line + 0) start n) ∨
    (statEn.getLsbD 3 = true ∧ lyc.toNat ≤ 153 ∧ Passes (456 * lyc.toNat + 0) start n) := by
  constructor
  · rintro ⟨c, after, within, ⟨en, dot, line⟩ | ⟨en, point⟩ | ⟨en, dot, line⟩ | ⟨en, point⟩⟩
    · exact .inl ⟨en, _, line, (passes_iff_comes (by omega) ..).2 ⟨c, after, within, by omega⟩⟩
    · exact .inr (.inl ⟨en, (passes_iff_comes (by omega) ..).2 ⟨c, after, within, point⟩⟩)
    · exact .inr (.inr (.inl ⟨en, _, line, (passes_iff_comes (by omega) ..).2 ⟨c, after, within, by omega⟩⟩))
    · exact .inr (.inr (.inr ⟨en, by omega, (passes_iff_comes (by omega) ..).2 ⟨c, after, within, point⟩⟩))
  · rintro (⟨en, line, hl, passes⟩ | ⟨en, passes⟩ | ⟨en, line, hl, passes⟩ | ⟨en, hl, passes⟩) <;>
      obtain ⟨c, after, within, point⟩ := (passes_iff_comes (by omega) ..).1 passes <;>
      refine ⟨c, after, within, ?_⟩
    · exact .inl ⟨en, by omega, by omega⟩
    · exact .inr (.inl ⟨en, point⟩)
    · exact .inr (.inr (.inl ⟨en, by omega, by omega⟩))
    · exact .inr (.inr (.inr ⟨en, point⟩))

/-- Settles O45: the passes of a tick come to the boundaries of the frame in turn, and each requests what its point asks for. -/
theorem frameAndLineEvents : Obligations.FrameAndLineEvents := by
  intro n s on mode ly scan
  have requested := requested_ppuTick (n := n) on mode ly scan
  dsimp only
  refine ⟨?_, ?_, ?_, fun inLine same => ?_, requested.otherBits, (deviceFrame_ppuTick n s).ie⟩
  · rw [requested.vblankBit, passes_iff_comes (by decide)]
    rfl
  · rw [requested.frameReady, passes_iff_comes (by decide)]
    rfl
  · rw [requested.statBit, comes_statPoint_iff]
  · rw [ppuTick_on n on]
    exact ppuLoop_of_none _ (ppuAdvance_eq_none same.symm inLine)

end Sys2Proof.Machine

/-! ## A rendered line (O46): where its pixels go, and the two ticks around it -/

namespace Sys2Proof.Machine

/-! ### Pixels in the framebuffer -/

/-- The three bytes of pixel number `n` (R431, D28). -/
def State.pokePixel (n : Nat) (c : Rgb) (s : State) : State :=
  ((s.poke .framebuffer (3 * n) c.red).poke .framebuffer (3 * n + 1) c.green).poke .framebuffer (3 * n + 2) c.blue

theorem putPixels_cons (n : Nat) (c : Rgb) (rest : List Rgb) (s : State) :
    putPixels n (c :: rest) s = putPixels (n + 1) rest (s.pokePixel n c) := rfl

theorem storesWf_pokePixel (n : Nat) (c : Rgb) {s : State} (h : StoresWf s) : StoresWf (s.pokePixel n c) :=
  storesWf_poke _ _ _ _ (storesWf_poke _ _ _ _ (storesWf_poke _ _ _ _ h))

theorem peek_pokePixel_other (n : Nat) (c : Rgb) (s : State) {i : Nat} (h : i < 3 * n ∨ 3 * n + 3 ≤ i) :
    (s.pokePixel n c).peek .framebuffer i = s.peek .framebuffer i := by
  unfold State.pokePixel
  rw [peek_poke_other, peek_poke_other, peek_poke_other] <;> simp <;> omega

/-- Pixel number `n` of the framebuffer shows the colour. -/
def ShowsPixel (n : Nat) (c : Rgb) (s : State) : Prop :=
  s.peek .framebuffer (3 * n) = c.red ∧ s.peek .framebuffer (3 * n + 1) = c.green ∧ s.peek .framebuffer (3 * n + 2) = c.blue

theorem showsPixel_pokePixel (n : Nat) (c : Rgb) {s : State} (h : StoresWf s) : ShowsPixel n c (s.pokePixel n c) := by
  have wf₁ := storesWf_poke s .framebuffer (3 * n) c.red h
  have wf₂ := storesWf_poke _ .framebuffer (3 * n + 1) c.green wf₁
  unfold State.pokePixel
  refine ⟨?_, ?_, peek_poke_same _ _ _ _ (wf₂ _)⟩
  · rw [peek_poke_other _ _ _ _ _ _ (by simp), peek_poke_other _ _ _ _ _ _ (by simp), peek_poke_same _ _ _ _ (h _)]
  · rw [peek_poke_other _ _ _ _ _ _ (by simp), peek_poke_same _ _ _ _ (wf₁ _)]

/-- Bytes before and after the pixels written stay. -/
theorem peek_putPixels_other (n : Nat) (l : List Rgb) (s : State) {i : Nat} (h : i < 3 * n ∨ 3 * (n + l.length) ≤ i) :
    (putPixels n l s).peek .framebuffer i = s.peek .framebuffer i := by
  induction l generalizing n s with
  | nil => rfl
  | cons c l ih =>
    rw [List.length_cons] at h
    rw [putPixels_cons, ih _ _ (by omega), peek_pokePixel_other _ _ _ (by omega)]

theorem showsPixel_putPixels (n : Nat) (l : List Rgb) {s : State} (h : StoresWf s) {j : Nat} {c : Rgb} (hj : l[j]? = some c) :
    ShowsPixel (n + j) c (putPixels n l s) := by
  induction l generalizing n s j with
  | nil => cases hj
  | cons d l ih =>
    rw [putPixels_cons]
    cases j with
    | zero =>
      obtain rfl : d = c := Option.some.inj hj
      obtain ⟨red, green, blue⟩ := showsPixel_pokePixel n d h
      refine ⟨?_, ?_, ?_⟩ <;> rw [peek_putPixels_other _ _ _ (by omega)] <;> assumption
    | succ j =>
      rw [← Nat.succ_add_eq_add_succ]
      exact ih _ (storesWf_pokePixel n d h) hj

/-! ### The line -/

theorem getElem?_linePixels (s : State) (ly : Nat) {x : Nat} (hx : x < 160) :
    (linePixels s ly)[x]? = some (linePixel s ly (spriteOrder s ly) x) := by
  simp [linePixels, hx]

theorem length_linePixels (s : State) (ly : Nat) : (linePixels s ly).length = 160 := by simp [linePixels]

theorem renderScanline_peek (ly : Nat) (s : State) (i : Nat) : (renderScanline ly s).peek .framebuffer i =
    (putPixels (ly * 160) ((linePixels s ly).map (·.1)) s).peek .framebuffer i :=
  peek_congr _ _ (renderScanline_mem ly s) _ _

theorem windowDrawn_iff (s : State) (ly : Nat) : windowDrawn s ly = true ↔
    s.ppu.lcdc.getLsbD 5 = true ∧ s.ppu.wy.toNat ≤ ly ∧ s.ppu.wx.toNat ≤ 166 ∧
      (s.cfg.cgb = true ∨ s.ppu.lcdc.getLsbD 0 = true) := by
  simp only [windowDrawn, Bool.and_eq_true, Bool.or_eq_true, decide_eq_true_eq, and_assoc]

/-- With LCDC bit 0 clear no pixel of the background has priority (R425). -/
theorem bgPriority_off {s : State} (off : s.ppu.lcdc.getLsbD 0 = false) (p : BgPixel) : bgPriority s p = false := by
  rw [bgPriority, off, Bool.false_and]

/-! ### Two ticks of one pass -/

theorem ppuAdvance_of_transfer {s : State} (visible : s.ppu.ly.toNat ≤ 143) (mode : s.ppu.mode = .transfer)
    (ends : 252 ≤ s.ppu.scanCounter) : ppuAdvance s = some (enterHBlank s) := by
  unfold ppuAdvance
  rw [if_pos visible, mode]
  exact if_pos ends

theorem ppuAdvance_of_vblankLine {s : State} (inVBlank : 144 ≤ s.ppu.ly.toNat) (ends : 456 ≤ s.ppu.scanCounter) :
    ppuAdvance s = some (endVBlankLine s) := by
  unfold ppuAdvance
  rw [if_neg (by omega), if_pos ends]

theorem ppuTick_of_one_pass {n : Nat} {s t : State} (on : s.ppu.lcdc.getLsbD 7 = true)
    (pass : ppuAdvance (s.counted n) = some t) (done : ppuAdvance t = none) : ppuTick n s = t := by
  rw [ppuTick_on n on, ppuFuel, Nat.mul_succ, ppuLoop, pass]
  exact ppuLoop_of_none _ done

/-- Mode 3 ends: the rendered line, mode 0, and the STAT request where bit 3 asks for it. -/
theorem enterHBlank_eq (s : State) : enterHBlank s =
    { renderScanline s.ppu.ly.toNat s with
      ppu := { (renderScanline s.ppu.ly.toNat s).ppu with mode := .hblank }
      irq := if s.ppu.statEn.getLsbD 0 then { s.irq with ifReg := s.irq.ifReg ||| 0b00010 } else s.irq } := by
  have irq := renderScanline_irq s.ppu.ly.toNat s
  have statEn := (ppuFrame_renderScanline s.ppu.ly.toNat s).statEn
  unfold enterHBlank requestStat requestIf
  generalize renderScanline s.ppu.ly.toNat s = r at irq statEn
  dsimp only
  rw [statEn, ← irq]
  split <;> rfl

/-- Settles O46: the line goes to its own pixels, and each of the two ticks is one pass of the loop. -/
theorem renderWritesOneLine : Obligations.RenderWritesOneLine := by
  refine ⟨fun ly s hly wf => ?line, fun n s on ly mode ends stays => ?render, fun n s on ly ends stays => ?wrap⟩
  case line =>
    have ppu := congrArg State.ppu (renderScanline_eq ly s)
    dsimp only at ppu ⊢
    refine ⟨fun x hx c hc => ?_, fun i hi => ?_, ?_, ?_, fun off p hp => ?_, fun drawn => ?_, fun notDrawn => ?_⟩
    · have pixel : ((linePixels s ly).map (·.1))[x]? = some c := by
        rw [List.getElem?_map, getElem?_linePixels s ly hx, ← hc]; rfl
      rw [renderScanline_peek, renderScanline_peek, renderScanline_peek, Nat.mul_comm]
      exact showsPixel_putPixels (ly * 160) _ wf pixel
    · rw [renderScanline_peek]
      refine peek_putPixels_other _ _ _ ?_
      rw [List.length_map, length_linePixels]
      omega
    · rw [ppu]
      exact renderScanline_eq ly s
    · rw [ppu, List.length_map, length_linePixels]
    · rw [ppu] at hp
      simp only [linePixels, List.map_map, List.mem_map] at hp
      obtain ⟨x, -, rfl⟩ := hp
      exact bgPriority_off off _
    · rw [ppu]
      exact if_pos ((windowDrawn_iff s ly).2 drawn)
    · rw [ppu]
      exact if_neg (mt (windowDrawn_iff s ly).1 notDrawn)
  case render =>
    have pass := ppuAdvance_of_transfer (s := s.counted n) ly mode ends
    obtain ⟨prio, line, after⟩ := enterHBlank_ppu (s.counted n)
    have hblank : modeAt s.ppu.ly (s.ppu.scanCounter + n) = .hblank := (modeAt_iff _ _).2.2.2.2 ⟨ly, ends⟩
    have done : ppuAdvance (enterHBlank (s.counted n)) = none :=
      ppuAdvance_eq_none (by rw [after]; exact hblank.symm) (by rw [after]; exact stays)
    exact (ppuTick_of_one_pass on pass done).trans (enterHBlank_eq _)
  case wrap =>
    have pass := ppuAdvance_of_vblankLine (s := s.counted n) (by rw [counted_ly, ly]; decide) ends
    have after := (endVBlankLine_ppu (s.counted n)).trans (if_pos ly)
    have oamScan : modeAt 0 (s.ppu.scanCounter + n - 456) = .oamScan := (modeAt_iff _ _).2.1.2 ⟨by decide, by omega⟩
    have inLine : s.ppu.scanCounter + n - 456 ≤ 455 := by omega
    have done : ppuAdvance (endVBlankLine (s.counted n)) = none :=
      ppuAdvance_eq_none (by rw [after]; exact oamScan.symm) (by rw [after]; exact inLine)
    rw [ppuTick_of_one_pass on pass done, after]
    exact ⟨rfl, rfl, rfl⟩

end Sys2Proof.Machine

/-! ## The pixels of a line (O47, O48): tile data, colours, and which sprite shows -/

namespace Sys2Proof.Machine

/-! ### Tile data and colours on numbers -/

/-- A tile's pixel is the bit of the high byte over the bit of the low byte (R421). -/
theorem tilePixel_toNat (s : State) (bank k r c data : Nat) (hd : bank * 0x2000 + k + 2 * r = data) :
    (tilePixel s bank (0x8000 + k) r c).toNat =
      2 * ((s.peek .vram (data + 1)).getLsbD (7 - c)).toNat + ((s.peek .vram data).getLsbD (7 - c)).toNat := by
  have low : vramByte s bank (0x8000 + k + 2 * r) = s.peek .vram data :=
    vramByte_eq s bank _ (k + 2 * r) data (Nat.add_assoc _ _ _) ((Nat.add_assoc _ _ _).symm.trans hd)
  have high : vramByte s bank (0x8000 + k + 2 * r + 1) = s.peek .vram (data + 1) :=
    vramByte_eq s bank _ (k + 2 * r + 1) (data + 1) (by omega) (by rw [← hd]; ring)
  rw [tilePixel, colourIndex_toNat, low, high]

theorem toNat_extractLsb'_three (v : Byte) : (v.extractLsb' 0 3).toNat = v.toNat % 8 := by
  rw [extractLsb'_zero_eq_ofNat, BitVec.toNat_ofNat]

theorem bne_zero_eq_or {cid : BitVec 2} {high low : Bool} (h : cid.toNat = 2 * high.toNat + low.toNat) :
    (cid != 0) = (high || low) := by
  have zero : cid = 0 ↔ cid.toNat = 0 := BitVec.toNat_inj.symm
  cases high <;> cases low <;> simp_all

/-- The 5-bit fields of a palette word (R431). -/
theorem extractLsb'_five_eq_ofNat (c : Word) (start : Nat) :
    c.extractLsb' start 5 = BitVec.ofNat 5 (c.toNat / 2 ^ start) := by
  rw [← Nat.shiftRight_eq_div_pow]
  rfl

theorem shadeRgb_eq (cfg : Config) : shadeRgb cfg 0 = cfg.shades.shade0 ∧ shadeRgb cfg 1 = cfg.shades.shade1 ∧
    shadeRgb cfg 2 = cfg.shades.shade2 ∧ shadeRgb cfg 3 = cfg.shades.shade3 := ⟨rfl, rfl, rfl, rfl⟩

theorem expand5_toNat (c : BitVec 5) : (expand5 c).toNat = 8 * c.toNat + c.toNat / 4 := by
  revert c; decide

/-! ### The background and the window -/

theorem bgBlank_iff (s : State) : bgBlank s = true ↔ s.cfg.cgb = false ∧ s.ppu.lcdc.getLsbD 0 = false := by
  rw [bgBlank, Bool.and_eq_true, Bool.not_eq_true', Bool.not_eq_true']

/-- The colour of a pixel that DMG fetches (R424). -/
theorem bgColour_dmg {s : State} (dmg : s.cfg.cgb = false) (fetched : bgBlank s = false) (p : BgPixel) :
    bgColour s p = shadeRgb s.cfg (paletteShade s.ppu.bgp p.cid) := by
  simp [bgColour, dmg, fetched]

theorem bgColour_cgb {s : State} (cgb : s.cfg.cgb = true) (p : BgPixel) :
    bgColour s p = paletteColour s .bgPalRam (p.attr.extractLsb' 0 3) p.cid := if_pos cgb

/-- The map address of a plane by its LCDC bit, counted from the start of VRAM. -/
theorem mapBase_eq (b : Bool) : (if b then 0x9C00 else 0x9800) = 0x8000 + (if b then 0x1C00 else 0x1800) := by
  cases b <;> rfl

/-- The pixel of a plane, from the map byte to the two bits of its tile (R422). -/
theorem mapPixel_eq (s : State) (map px py data : Nat) (tile attr : Byte)
    (htile : s.peek .vram (map + 32 * (py / 8) + px / 8) = tile)
    (hattr : (if s.cfg.cgb then s.peek .vram (0x2000 + (map + 32 * (py / 8) + px / 8)) else 0) = attr)
    (hdata : (if attr.getLsbD 3 then 0x2000 else 0) +
      (if s.ppu.lcdc.getLsbD 4 then 16 * tile.toNat else (0x1000 + 16 * tile.toInt).toNat) +
      2 * (if attr.getLsbD 6 then 7 - py % 8 else py % 8) = data) :
    (mapPixel s (0x8000 + map) px py).attr = attr ∧
    (mapPixel s (0x8000 + map) px py).cid.toNat =
      2 * ((s.peek .vram (data + 1)).getLsbD (if attr.getLsbD 5 then px % 8 else 7 - px % 8)).toNat +
        ((s.peek .vram data).getLsbD (if attr.getLsbD 5 then px % 8 else 7 - px % 8)).toNat := by
  have bit : 7 - (if attr.getLsbD 5 then 7 - px % 8 else px % 8) = if attr.getLsbD 5 then px % 8 else 7 - px % 8 := by
    split <;> omega
  have bank : (attr.getLsbD 3).toNat * 0x2000 = if attr.getLsbD 3 then 0x2000 else 0 := by cases attr.getLsbD 3 <;> rfl
  have pixel : mapPixel s (0x8000 + map) px py = fetchBg s tile attr (px % 8) (py % 8) := by
    unfold mapPixel
    dsimp only
    rw [vramByte_eq s 0 _ (map + 32 * (py / 8) + px / 8) _ (by omega) (Nat.zero_mul _ ▸ Nat.zero_add _), htile,
      vramByte_eq s 1 _ (map + 32 * (py / 8) + px / 8) _ (by omega) rfl, Nat.one_mul, hattr]
  rw [pixel]
  refine ⟨rfl, ?_⟩
  rw [← bit, fetchBg, tileAddr_eq]
  exact tilePixel_toNat s _ _ _ _ data (by rw [bank]; exact hdata)

/-- Settles O47: the window or the background gives the map cell, whose bytes give the tile's bits, the flag and the colour. -/
theorem backgroundPixelColour : Obligations.BackgroundPixelColour := by
  refine ⟨fun s ly x fetched => ?pixel, fun s ly x dmg off => ?blank, shadeRgb_eq, expand5_toNat,
    fun c => ⟨?red, ?green, ?blue⟩⟩
  case red => exact congrArg expand5 ((extractLsb'_five_eq_ofNat c 0).trans (by rw [Nat.pow_zero, Nat.div_one]))
  case green => exact congrArg expand5 (extractLsb'_five_eq_ofNat c 5)
  case blue => exact congrArg expand5 (extractLsb'_five_eq_ofNat c 10)
  case blank =>
    have blank := (bgBlank_iff s).2 ⟨dmg, off⟩
    refine ⟨?_, bgPriority_off off _, ?_⟩
    · rw [bgPixel, if_pos blank]
    · rw [bgColour, dmg, if_neg Bool.false_ne_true, if_pos blank]
      rfl
  case pixel =>
    have notBlank : ¬bgBlank s = true := by
      rw [bgBlank_iff]
      rcases fetched with h | h <;> simp [h]
    intro window
    have covered : (windowDrawn s ly && decide (s.ppu.wx.toNat ≤ x + 7)) = true ↔ window := by
      simp only [Bool.and_eq_true, windowDrawn_iff, decide_eq_true_eq, and_assoc, fetched, true_and, window]
    obtain ⟨px, py, map, hwindow, hbackground, hpixel⟩ : ∃ px py map : Nat,
        (window → px = x + 7 - s.ppu.wx.toNat ∧ py = s.ppu.windowLine ∧
          map = (if s.ppu.lcdc.getLsbD 6 then 0x1C00 else 0x1800)) ∧
        (¬window → px = (s.ppu.scx.toNat + x) % 256 ∧ py = (s.ppu.scy.toNat + ly) % 256 ∧
          map = (if s.ppu.lcdc.getLsbD 3 then 0x1C00 else 0x1800)) ∧
        bgPixel s ly x = mapPixel s (0x8000 + map) px py := by
      by_cases inWindow : window
      · refine ⟨_, _, _, fun _ => ⟨rfl, rfl, rfl⟩, fun outside => absurd inWindow outside, ?_⟩
        rw [bgPixel, if_neg notBlank, if_pos (covered.2 inWindow), mapBase_eq]
      · refine ⟨_, _, _, fun inside => absurd inside inWindow, fun _ => ⟨rfl, rfl, rfl⟩, ?_⟩
        rw [bgPixel, if_neg notBlank, if_neg (mt covered.1 inWindow), mapBase_eq]
    refine ⟨px, py, map, hwindow, hbackground, ?_⟩
    intro tile attr row bit data low high p
    obtain ⟨hattr, hcid⟩ := mapPixel_eq s map px py data tile attr rfl rfl rfl
    rw [← hpixel] at hattr hcid
    change p.cid.toNat = 2 * high.toNat + low.toNat at hcid
    refine ⟨hcid, hattr, ?_, fun dmg => ⟨_, bgColour_dmg dmg (Bool.eq_false_iff.2 notBlank) p, paletteShade_toNat _ _⟩,
      fun cgb => ?_⟩
    · have dmgAttr : (s.cfg.cgb && attr.getLsbD 7) = attr.getLsbD 7 := by
        cases cgb : s.cfg.cgb
        · simp [attr, cgb]
        · rfl
      rw [bgPriority, bne_zero_eq_or hcid, show p.attr = attr from hattr, dmgAttr]
    · obtain ⟨w, colour, hw⟩ := paletteColour_eq s .bgPalRam (p.attr.extractLsb' 0 3) p.cid
      rw [toNat_extractLsb'_three, show p.attr = attr from hattr] at hw
      exact ⟨w, (bgColour_cgb cgb p).trans colour, hw⟩

end Sys2Proof.Machine

/-! ## The sprites of a line (O48): which are chosen, in which order, and what each shows -/

namespace Sys2Proof.Machine

/-! ### The choice -/

theorem spriteHeight_eq (s : State) : spriteHeight s = if s.ppu.lcdc.getLsbD 2 then 16 else 8 := rfl

theorem onLine_iff (s : State) (ly : Nat) (o : Sprite) : onLine s ly o = true ↔
    o.y.toNat ≤ ly + 16 ∧ ly + 16 < o.y.toNat + if s.ppu.lcdc.getLsbD 2 then 16 else 8 := by
  rw [onLine, Bool.and_eq_true, decide_eq_true_eq, decide_eq_true_eq, spriteHeight_eq]

/-- The OAM indices of the entries chosen for a line: the first ten that intersect it. -/
def picks (s : State) (ly : Nat) : List Nat := ((List.range 40).filter fun i => onLine s ly (oamEntry s i)).take 10

theorem selectedSprites_eq_map_picks {s : State} (on : s.ppu.lcdc.getLsbD 1 = true) (ly : Nat) :
    selectedSprites s ly = (picks s ly).map (oamEntry s) := by
  rw [selectedSprites, if_pos on, List.filter_map, ← List.map_take]
  rfl

theorem picks_sublist (s : State) (ly : Nat) : (picks s ly).Sublist (List.range 40) :=
  (List.take_sublist _ _).trans List.filter_sublist

theorem mem_picks {s : State} {ly i : Nat} (h : i ∈ picks s ly) : i < 40 ∧ onLine s ly (oamEntry s i) = true := by
  obtain ⟨inOam, on⟩ := List.mem_filter.1 (List.mem_of_mem_take h)
  exact ⟨List.mem_range.1 inOam, on⟩

/-- An intersecting entry that is not chosen comes after ten that are (R426). -/
theorem lt_of_not_mem_picks {s : State} {ly i : Nat} (hi : i < 40) (on : onLine s ly (oamEntry s i) = true)
    (out : i ∉ picks s ly) : (picks s ly).length = 10 ∧ ∀ j ∈ picks s ly, j < i := by
  have all : i ∈ (List.range 40).filter fun i => onLine s ly (oamEntry s i) :=
    List.mem_filter.2 ⟨List.mem_range.2 hi, on⟩
  rw [← List.take_append_drop 10 (List.filter _ _), List.mem_append] at all
  have later := all.resolve_left out
  have rising : ((List.range 40).filter fun i => onLine s ly (oamEntry s i)).Pairwise (· < ·) :=
    List.pairwise_lt_range.sublist List.filter_sublist
  rw [← List.take_append_drop 10 (List.filter _ _), List.pairwise_append] at rising
  obtain ⟨-, -, before⟩ := rising
  refine ⟨?_, fun j hj => before j hj i later⟩
  have := List.length_pos_of_mem later
  rw [List.length_drop] at this
  rw [picks, List.length_take]
  omega

/-! ### The order -/

theorem insertByX_perm (o : Sprite) (l : List Sprite) : (insertByX o l).Perm (o :: l) := by
  induction l with
  | nil => exact .refl _
  | cons p l ih =>
    rw [insertByX]
    split
    · exact .refl _
    · exact (ih.cons p).trans (.swap o p l)

theorem sortByX_perm (l : List Sprite) : (sortByX l).Perm l := by
  induction l with
  | nil => exact .refl _
  | cons o l ih => exact (insertByX_perm o _).trans (ih.cons o)

theorem insertByX_rising (o : Sprite) {l : List Sprite} (h : l.Pairwise fun o p => o.x.toNat ≤ p.x.toNat) :
    (insertByX o l).Pairwise fun o p => o.x.toNat ≤ p.x.toNat := by
  induction l with
  | nil => exact List.pairwise_singleton _ _
  | cons p l ih =>
    obtain ⟨first, rest⟩ := List.pairwise_cons.1 h
    rw [insertByX]
    split
    · next le =>
      refine List.pairwise_cons.2 ⟨fun q hq => ?_, h⟩
      rcases List.mem_cons.1 hq with rfl | hq
      · exact le
      · exact le.trans (first q hq)
    · next lt =>
      refine List.pairwise_cons.2 ⟨fun q hq => ?_, ih rest⟩
      rcases List.mem_cons.1 ((insertByX_perm o l).mem_iff.1 hq) with rfl | hq
      · omega
      · exact first q hq

theorem sortByX_rising (l : List Sprite) : (sortByX l).Pairwise fun o p => o.x.toNat ≤ p.x.toNat := by
  induction l with
  | nil => exact .nil
  | cons o l ih => exact insertByX_rising o ih

/-- A sprite is put before all of its own X, so sorting keeps their order (R427). -/
theorem insertByX_filter (o : Sprite) (l : List Sprite) (v : Byte) :
    (insertByX o l).filter (fun o => o.x == v) = (o :: l).filter fun o => o.x == v := by
  induction l with
  | nil => rfl
  | cons p l ih =>
    rw [insertByX]
    split
    · rfl
    · next behind =>
      have differ : ¬(o.x = v ∧ p.x = v) := by
        rintro ⟨ho, hp⟩
        rw [ho, hp] at behind
        exact behind (Nat.le_refl _)
      rw [List.filter_cons, ih]
      by_cases ho : o.x = v <;> by_cases hp : p.x = v <;> simp_all

theorem sortByX_filter (l : List Sprite) (v : Byte) :
    (sortByX l).filter (fun o => o.x == v) = l.filter fun o => o.x == v := by
  induction l with
  | nil => rfl
  | cons o l ih => rw [sortByX, insertByX_filter, List.filter_cons, List.filter_cons, ih]

/-! ### The pixel -/

/-- The first sprite of the order that shows anything gives the colour (R429). -/
theorem linePixel_of_shows {s : State} {ly x : Nat} {before : List Sprite} {o : Sprite} {c : Rgb} (after : List Sprite)
    (hidden : ∀ p ∈ before, spriteShows s ly x (bgPriority s (bgPixel s ly x)) p = none)
    (shows : spriteShows s ly x (bgPriority s (bgPixel s ly x)) o = some c) :
    (linePixel s ly (before ++ o :: after) x).1 = c := by
  simp [linePixel, List.findSome?_append, List.findSome?_eq_none_iff.2 hidden, shows]

/-- Where no sprite shows anything the background does. -/
theorem linePixel_of_hidden {s : State} {ly x : Nat} {sprites : List Sprite}
    (hidden : ∀ p ∈ sprites, spriteShows s ly x (bgPriority s (bgPixel s ly x)) p = none) :
    (linePixel s ly sprites x).1 = bgColour s (bgPixel s ly x) := by
  simp [linePixel, List.findSome?_eq_none_iff.2 hidden]

theorem spriteShows_outside {s : State} {ly x : Nat} {prio : Bool} {o : Sprite} (h : x + 8 < o.x.toNat ∨ o.x.toNat ≤ x) :
    spriteShows s ly x prio o = none := if_neg (by omega)

/-- Inside its columns a sprite shows its colour unless that is transparent or behind the background (R428, R429). -/
theorem spriteShows_inside {s : State} {ly x : Nat} {prio : Bool} {o : Sprite} (left : o.x.toNat ≤ x + 8) (right : x < o.x.toNat) :
    spriteShows s ly x prio o =
      if spritePixel s ly o (x + 8 - o.x.toNat) = 0 ∨ (o.attr.getLsbD 7 = true ∧ prio = true) then none
      else some (spriteColour s o (spritePixel s ly o (x + 8 - o.x.toNat))) := by
  rw [spriteShows, if_pos ⟨left, right⟩]
  dsimp only
  by_cases clear : spritePixel s ly o (x + 8 - o.x.toNat) = 0
  · rw [if_pos clear, if_pos (.inl clear)]
  · by_cases behind : o.attr.getLsbD 7 = true ∧ prio = true
    · rw [if_neg clear, if_pos (Bool.and_eq_true_iff.2 behind), if_pos (.inr behind)]
    · rw [if_neg clear, if_neg (mt Bool.and_eq_true_iff.1 behind), if_neg (not_or.2 ⟨clear, behind⟩)]

theorem spriteShows_behind (s : State) (ly x : Nat) {o : Sprite} (h : o.attr.getLsbD 7 = true) :
    spriteShows s ly x true o = none := by
  by_cases left : o.x.toNat ≤ x + 8
  · by_cases right : x < o.x.toNat
    · rw [spriteShows_inside left right, if_pos (.inr ⟨h, rfl⟩)]
    · exact spriteShows_outside (.inr (Nat.le_of_not_lt right))
  · exact spriteShows_outside (.inl (Nat.lt_of_not_le left))

theorem toNat_and_0xFE (v : Byte) : (v &&& 0xFE).toNat = v.toNat / 2 * 2 := by
  revert v; decide

/-- The two bits of a sprite's pixel, from its row and column (R428). -/
theorem spritePixel_toNat (s : State) {ly : Nat} {o : Sprite} {x data : Nat} (left : o.x.toNat ≤ x + 8) (right : x < o.x.toNat)
    (top : o.y.toNat ≤ ly + 16) (bottom : ly + 16 < o.y.toNat + if s.ppu.lcdc.getLsbD 2 then 16 else 8)
    (hdata : (if s.cfg.cgb && o.attr.getLsbD 3 then 0x2000 else 0) +
      16 * (if s.ppu.lcdc.getLsbD 2 then o.tile.toNat / 2 * 2 else o.tile.toNat) +
      2 * (if o.attr.getLsbD 6 then o.y.toNat + (if s.ppu.lcdc.getLsbD 2 then 16 else 8) - 1 - (ly + 16)
        else ly + 16 - o.y.toNat) = data) :
    (spritePixel s ly o (x + 8 - o.x.toNat)).toNat =
      2 * ((s.peek .vram (data + 1)).getLsbD (if o.attr.getLsbD 5 then x + 8 - o.x.toNat else o.x.toNat - 1 - x)).toNat +
        ((s.peek .vram data).getLsbD (if o.attr.getLsbD 5 then x + 8 - o.x.toNat else o.x.toNat - 1 - x)).toNat := by
  have bit : (if o.attr.getLsbD 5 then x + 8 - o.x.toNat else o.x.toNat - 1 - x) =
      7 - (if o.attr.getLsbD 5 then 7 - (x + 8 - o.x.toNat) else x + 8 - o.x.toNat) := by
    split <;> omega
  have bank : (if s.cfg.cgb then (o.attr.getLsbD 3).toNat else 0) * 0x2000 =
      if s.cfg.cgb && o.attr.getLsbD 3 then 0x2000 else 0 := by
    cases s.cfg.cgb <;> cases o.attr.getLsbD 3 <;> rfl
  have tile : (if spriteHeight s = 16 then o.tile &&& 0xFE else o.tile).toNat =
      if s.ppu.lcdc.getLsbD 2 then o.tile.toNat / 2 * 2 else o.tile.toNat := by
    rw [spriteHeight_eq]
    cases s.ppu.lcdc.getLsbD 2
    · rfl
    · exact toNat_and_0xFE o.tile
  have row : (if o.attr.getLsbD 6 then spriteHeight s - 1 - (ly + 16 - o.y.toNat) else ly + 16 - o.y.toNat) =
      if o.attr.getLsbD 6 then o.y.toNat + (if s.ppu.lcdc.getLsbD 2 then 16 else 8) - 1 - (ly + 16)
      else ly + 16 - o.y.toNat := by
    rw [← spriteHeight_eq] at bottom ⊢
    split <;> omega
  rw [bit]
  exact tilePixel_toNat s _ _ _ _ data (by rw [bank, tile, row]; exact hdata)

/-- Settles O48: the chosen entries are the first ten indices of a filtered OAM, sorting by X is stable, and the first sprite
of the order that shows anything gives its colour. -/
theorem spriteSelectionAndOrder : Obligations.SpriteSelectionAndOrder := by
  refine ⟨fun s ly off => ?off, fun s ly on => ?chosen, fun s ly x before after o c hidden shows =>
    ⟨linePixel_of_shows after hidden shows, linePixel_of_hidden hidden⟩, fun s ly x o => spriteShows_behind s ly x,
    fun s ly x prio o => ?pixel⟩
  case off => rw [selectedSprites, off]; rfl
  case chosen =>
    dsimp only
    have eq := selectedSprites_eq_map_picks on ly
    refine ⟨?length, ?sublist, ?meets, ⟨picks s ly, eq, ?rising, ?inside, ?first⟩, ?few, fun cgb => if_pos cgb, fun dmg => ?dmg⟩
    case length => rw [eq, List.length_map]; exact List.length_take_le _ _
    case sublist => rw [eq]; exact (picks_sublist s ly).map _
    case meets =>
      intro o ho
      rw [eq] at ho
      obtain ⟨i, hi, rfl⟩ := List.mem_map.1 ho
      exact (onLine_iff ..).1 (mem_picks hi).2
    case rising => exact List.pairwise_lt_range.sublist (picks_sublist s ly)
    case inside => exact fun i hi => ⟨(mem_picks hi).1, (onLine_iff ..).1 (mem_picks hi).2⟩
    case first => exact fun i hi meets out => lt_of_not_mem_picks hi ((onLine_iff ..).2 meets) out
    case few =>
      intro few i hi top bottom
      rw [eq, List.length_map] at few
      rw [eq]
      refine List.mem_map_of_mem (by_contra fun out => ?_)
      have := (lt_of_not_mem_picks hi ((onLine_iff ..).2 ⟨top, bottom⟩) out).1
      omega
    case dmg =>
      have order : spriteOrder s ly = sortByX (selectedSprites s ly) := if_neg (by rw [dmg]; decide)
      rw [order]
      exact ⟨sortByX_perm _, sortByX_rising _, sortByX_filter _⟩
  case pixel =>
    intro height
    refine ⟨spriteShows_outside, fun left right top bottom => ?_⟩
    intro row bit tile data cid
    have hcid : (spritePixel s ly o (x + 8 - o.x.toNat)).toNat = cid := spritePixel_toNat s left right top bottom rfl
    have clear : spritePixel s ly o (x + 8 - o.x.toNat) = 0 ↔ cid = 0 := by
      rw [← hcid]
      exact BitVec.toNat_inj.symm
    rw [spriteShows_inside left right]
    refine ⟨fun hidden => if_pos (hidden.imp_left clear.2), fun solid front => ?_⟩
    have shows : ¬(spritePixel s ly o (x + 8 - o.x.toNat) = 0 ∨ (o.attr.getLsbD 7 = true ∧ prio = true)) := by
      rintro (h | ⟨h, h'⟩)
      · exact solid (clear.1 h)
      · rw [h, h'] at front
        exact absurd front (by decide)
    rw [if_neg shows, ← hcid]
    refine ⟨fun dmg => ⟨_, congrArg some (if_neg (by rw [dmg]; decide)), paletteShade_toNat _ _⟩, fun cgb => ?_⟩
    obtain ⟨w, colour, hw⟩ := paletteColour_eq s .objPalRam (o.attr.extractLsb' 0 3) (spritePixel s ly o (x + 8 - o.x.toNat))
    rw [toNat_extractLsb'_three] at hw
    exact ⟨w, congrArg some ((if_pos cgb).trans colour), hw⟩

end Sys2Proof.Machine

/-! ## The joypad and the crashed machine (O59, O39) -/

namespace Sys2Proof.Machine

/-- Some button goes from 0 to 1 (R364). -/
theorem pressed_iff (b keys : Byte) :
    (b &&& ~~~keys != 0) = true ↔ ∃ k < 8, b.getLsbD k = true ∧ keys.getLsbD k = false := by
  rw [bne_iff_ne]
  constructor
  · intro changed
    by_contra none
    push Not at none
    exact changed (BitVec.eq_of_getLsbD_eq fun k hk => by simpa [hk] using none k hk)
  · rintro ⟨k, hk, down, up⟩ unchanged
    have bit := congrArg (·.getLsbD k) unchanged
    rw [BitVec.getLsbD_and, BitVec.getLsbD_not, down, up] at bit
    simp [hk] at bit

/-- Settles O59: a press is the test `setJoypad` makes, bit by bit. -/
theorem joypadPress : Obligations.JoypadPress := fun b s =>
  ⟨fun pressed => if_pos ((pressed_iff b s.joypad.keys).2 pressed),
    fun released => if_neg (mt (pressed_iff b s.joypad.keys).1 released)⟩

theorem setJoypad_keys (b : Byte) (s : State) : (setJoypad b s).joypad.keys = b := by
  unfold setJoypad
  split <;> rfl

theorem setJoypad_crashed (b : Byte) (s : State) : (setJoypad b s).cpu.crashed = s.cpu.crashed := by
  unfold setJoypad
  split <;> rfl

theorem writeMemory_cpu (raw : Bool) (a : Word) (v : Byte) (s : State) : (writeMemory raw a v s).cpu = s.cpu := by
  cases raw
  · exact memWrite_cpu a v s
  · exact rawWrite_cpu a v s

/-- A crashed machine's `CoreStep` does nothing and bills nothing (R381). -/
theorem coreStep_of_crashed {s : State} (h : s.cpu.crashed = true) : coreStep s = .next (s, 0) := if_pos h

/-- The loop of R402 makes no pass on a crashed machine. -/
theorem runBudget_of_crashed {s : State} (h : s.cpu.crashed = true) (budget fuel ran : Nat) :
    runBudget budget fuel ran s = .next (s, ran) := by
  cases fuel with
  | zero => rfl
  | succ fuel => simp [runBudget, h]

theorem hostStep_of_runBudget {budget ran : Nat} {s t : State} (h : runBudget budget budget 0 s = .next (t, ran)) :
    hostStep budget s = .next ({ t with ppu := { t.ppu with frameReady := false } },
      { cyclesRan := ran, frameReady := t.ppu.frameReady, crashed := t.cpu.crashed }) := by
  rw [hostStep, h]

/-- Settles O39: a crashed machine's calls stop at the flag, host calls do not touch it, and `create` leaves it clear. -/
theorem crashedMachineIsInert : Obligations.CrashedMachineIsInert := by
  refine ⟨fun s h => ⟨coreStep_of_crashed h, step_of_crashed s h, fun budget => ?_,
    fun b => ⟨setJoypad_keys b s, (setJoypad_crashed b s).trans h⟩, fun _ _ => h,
    fun raw a v => (congrArg Cpu.crashed (writeMemory_cpu raw a v s)).trans h⟩, fun cart boot o s made => ?_⟩
  · rw [hostStep_of_runBudget (runBudget_of_crashed h budget budget 0), h]
  · obtain ⟨-, kind, -, -, rfl⟩ := create_ok cart boot o s made
    rfl

end Sys2Proof.Machine

/-! ## The interrupt check in a step (O36, O37): the dispatch, the idle bill and the wake -/

namespace Sys2Proof.Machine

/-- Taking an interrupt clears its own bit of IF alone (R362). -/
theorem getLsbD_clear_bit (i : Source) (x : BitVec 5) : ∀ k < 5,
    (x &&& ~~~i.bit).getLsbD k = (x.getLsbD k && decide (k ≠ i.index)) := by
  revert x
  cases i <;> decide

theorem vector_eq (i : Source) : i.vector = BitVec.ofNat 16 (0x40 + 8 * i.index) := by cases i <;> rfl

/-- The lowest source of a set is the one none lies below (R361, R366). -/
theorem lowestSource_eq {p : BitVec 5} {i : Source} (here : p.getLsbD i.index = true)
    (below : ∀ k < i.index, p.getLsbD k = false) : lowestSource p = some i := by
  revert p
  cases i <;> decide

/-- The dispatch clears `halted` itself, so a wake before it makes no difference. -/
theorem dispatch_wakeHalt (i : Source) (s : State) : dispatch i (wakeHalt s) = dispatch i s := by
  unfold wakeHalt
  split <;> rfl

@[simp] theorem wakeHalt_ime (s : State) : (wakeHalt s).cpu.ime = s.cpu.ime := by unfold wakeHalt; split <;> rfl

theorem pendingBits_wakeHalt (s : State) : pendingBits (wakeHalt s) = pendingBits s := by unfold wakeHalt; split <;> rfl

/-- With IME set the interrupt check dispatches the lowest pending source (R361). -/
theorem serviceInterrupts_dispatch {s : State} {i : Source} (on : s.cpu.ime = true)
    (source : lowestSource (pendingBits s) = some i) : serviceInterrupts s = (dispatch i s, 20) := by
  unfold serviceInterrupts
  dsimp only
  rw [pendingBits_wakeHalt, source]
  dsimp only
  rw [wakeHalt_ime, if_pos on, dispatch_wakeHalt]

/-- Without anything to take the interrupt check is the wake alone (R363). -/
theorem serviceInterrupts_wake {s : State} (idle : s.cpu.ime = false ∨ pendingBits s = 0) :
    serviceInterrupts s = (wakeHalt s, 0) := by
  unfold serviceInterrupts
  dsimp only
  rw [pendingBits_wakeHalt, wakeHalt_ime]
  rcases idle with off | none
  · split <;> simp [off]
  · rw [none]
    rfl

section
variable {s t : State} {n : Nat} (hc : s.cpu.crashed = false) (hs : s.cpu.stopped = false)
  (check : serviceInterrupts s = (t, n))
include hc hs check

/-- A machine that is halted after the interrupt check bills its idle cycles (R400). -/
theorem coreStep_of_halted (hh : t.cpu.halted = true) :
    coreStep s = .next (endStep (n + t.cfg.idleCycles) t, n + t.cfg.idleCycles) := by
  simp [coreStep, hc, hs, check, hh]

/-- Otherwise it runs the instruction at PC and bills its cycles (R400). -/
theorem coreStep_of_awake {v : State} (hh : t.cpu.halted = false) (run : runInstr t = .next v) :
    coreStep s = .next (endStep (n + instrCycles t) v, n + instrCycles t) := by
  simp [coreStep, hc, hs, check, hh, run]

end

theorem step_of_coreStep {s t : State} {n : Nat} (h : coreStep s = .next (t, n)) : step s = .next t := by
  rw [step, h]

/-- Settles O36: the check finds the source, and `dispatch_eq` says what taking it does. -/
theorem interruptDispatch : Obligations.InterruptDispatch := by
  intro s i hc hs on requested below
  have bits {k : Nat} (hk : k < 5) := getLsbD_pendingBits s hk
  have inIf : i.index < 5 := by cases i <;> decide
  have source : lowestSource (pendingBits s) = some i := by
    refine lowestSource_eq ?_ fun k hk => ?_
    · rw [bits inIf, requested.1, requested.2]; rfl
    · rw [bits (hk.trans inIf)]
      exact Bool.eq_false_iff.2 (mt Bool.and_eq_true_iff.1 (below k hk))
  have check := serviceInterrupts_dispatch on source
  obtain ⟨v, run⟩ := runInstr_next (dispatch i s)
  have awake : (dispatch i s).cpu.halted = false := by rw [dispatch_eq]
  refine ⟨_, dispatch i s, v, getLsbD_clear_bit i s.irq.ifReg, check, ?_, run,
    step_of_coreStep (coreStep_of_awake hc hs check awake run)⟩
  rw [opByte_lo, opByte_hi, ← vector_eq]
  exact dispatch_eq i s

/-- Settles O37: the idle steps are the bill alone; a wake without a dispatch leaves the step to the instruction at PC. -/
theorem idleStepsAndWake : Obligations.IdleStepsAndWake := by
  refine ⟨fun s hc stopped => ⟨step_of_stopped s hc stopped, endStep_cpu _ _⟩,
    fun s hc hs hh none => ⟨?idle, endStep_cpu _ _⟩, fun s hc hs hh pending off => ?wake, fun s b stopped => ?press⟩
  case idle =>
    have asleep : wakeHalt s = s := by simp [wakeHalt, none]
    have check := serviceInterrupts_wake (s := s) (.inr none)
    rw [asleep] at check
    have core := coreStep_of_halted hc hs check hh
    rw [Nat.zero_add] at core
    exact step_of_coreStep core
  case wake =>
    have awake : wakeHalt s = s.setHalted false :=
      if_pos (Bool.and_eq_true_iff.2 ⟨hh, bne_iff_ne.2 pending⟩)
    have check := serviceInterrupts_wake (s := s) (.inl off)
    rw [awake] at check
    obtain ⟨v, run⟩ := runInstr_next (s.setHalted false)
    have core := coreStep_of_awake hc hs check rfl run
    rw [Nat.zero_add] at core
    exact ⟨v, run, step_of_coreStep core⟩
  case press =>
    obtain ⟨press, release⟩ := joypadPress b s
    by_cases pressed : ∃ k < 8, b.getLsbD k = true ∧ s.joypad.keys.getLsbD k = false
    · rw [press pressed]
      exact iff_of_true rfl pressed
    · rw [release pressed]
      exact iff_of_false (by simp [stopped]) pressed

end Sys2Proof.Machine

/-! ## IME and the EI latch over one instruction (O38) -/

namespace Sys2Proof.Machine

theorem LatchesKept.trans {a b c : Cpu} (h : LatchesKept a b) (g : LatchesKept b c) : LatchesKept a c := by
  obtain ⟨h1, h2, h3, h4, h5, h6⟩ := h
  obtain ⟨g1, g2, g3, g4, g5, g6⟩ := g
  exact ⟨g1.trans h1, g2.trans h2, g3.trans h3, g4.trans h4, g5.trans h5, g6.trans h6⟩

/-- Only the system instructions touch IME and the latches. -/
theorem latchesKept_exec {i : Instr} {s t : State} (plain : isSystem i = false) (h : exec i s = .next t) :
    LatchesKept s.cpu t.cpu :=
  exec_cases (fun u => LatchesKept s.cpu u.cpu) (fun _ _ _ kept hu => hu.trans kept)
    (fun u a v hu => by rw [memWrite_cpu]; exact hu) i s t (latchesKept_rfl _) h
    fun system => absurd (plain.symm.trans system) Bool.false_ne_true

/-- The instructions that write neither IME nor the EI latch and do not crash. -/
def leavesIme : Instr → Bool
  | .di | .ei | .reti | .illegal _ => false
  | _ => true

theorem leavesIme_cases {i : Instr} (h : leavesIme i = false) : i = .di ∨ i = .ei ∨ i = .reti ∨ ∃ b, i = .illegal b := by
  unfold leavesIme at h
  split at h <;> simp_all

theorem exec_leavesIme {i : Instr} {s t : State} (leaves : leavesIme i = true) (h : exec i s = .next t) :
    t.cpu.ime = s.cpu.ime ∧ t.cpu.eiPending = s.cpu.eiPending ∧ t.cpu.crashed = s.cpu.crashed := by
  cases system : isSystem i
  · obtain ⟨ime, -, -, ei, -, crashed⟩ := latchesKept_exec system h
    exact ⟨ime, ei, crashed⟩
  · rcases isSystem_cases i system with rfl | ⟨p, rfl⟩ | rfl | rfl | rfl | ⟨b, rfl⟩
    · cases h
      unfold doHalt
      split <;> exact ⟨rfl, rfl, rfl⟩
    · cases h
      exact ⟨rfl, rfl, rfl⟩
    all_goals exact absurd leaves Bool.false_ne_true

/-- RETI sets IME at once and leaves the latch (R320). -/
theorem returnFromInterrupt_latches (s : State) : (returnFromInterrupt s).cpu.ime = true ∧
    (returnFromInterrupt s).cpu.eiPending = s.cpu.eiPending ∧ (returnFromInterrupt s).cpu.crashed = s.cpu.crashed := by
  simp [returnFromInterrupt, afterPop]

/-- The latch, if the instruction began with it set and it still is, sets IME and is cleared (R365). -/
theorem consumeEi_latches (was : Bool) {s : State} (h : s.cpu.crashed = false) :
    (consumeEi was s).cpu.ime = (s.cpu.ime || was && s.cpu.eiPending) ∧
    (consumeEi was s).cpu.eiPending = (s.cpu.eiPending && !was) := by
  unfold consumeEi
  rw [h]
  cases was <;> cases ei : s.cpu.eiPending <;> simp [ei]

/-- Settles O38: the four instructions that write IME, the latch or the crash flag, and all others. -/
theorem eiLatchAndIme : Obligations.EiLatchAndIme := by
  intro s t hc run
  unfold runInstr at run
  generalize fetchedInstr s = i at run ⊢
  split at run
  case h_2 | h_3 => cases run
  case h_1 u executed =>
    cases run
    cases leaves : leavesIme i
    · rcases leavesIme_cases leaves with rfl | rfl | rfl | ⟨b, rfl⟩ <;> cases executed
      · obtain ⟨ime, ei⟩ := consumeEi_latches s.cpu.eiPending (s := disableInterrupts (afterFetch s)) hc
        exact ⟨ime.trans (Bool.and_false _), ei⟩
      · obtain ⟨ime, ei⟩ := consumeEi_latches s.cpu.eiPending (s := enableInterrupts (afterFetch s)) hc
        exact ⟨ime.trans (congrArg _ (Bool.and_true _)), ei⟩
      · obtain ⟨ime, ei, crashed⟩ := returnFromInterrupt_latches (afterFetch s)
        obtain ⟨ime', ei'⟩ := consumeEi_latches s.cpu.eiPending (crashed.trans hc)
        rw [ime, Bool.true_or] at ime'
        rw [ei] at ei'
        exact ⟨ime', ei'.trans (Bool.and_not_self _)⟩
      · rw [consumeEi_of_crashed _ rfl]
        exact ⟨rfl, rfl⟩
    · obtain ⟨ime, ei, crashed⟩ := exec_leavesIme leaves executed
      obtain ⟨ime', ei'⟩ := consumeEi_latches s.cpu.eiPending (crashed.trans hc)
      refine ⟨?ime, ?ei⟩
      case ime =>
        split
        case h_4 => exact ime'.trans (by rw [ime, ei]; exact congrArg _ (Bool.and_self _))
        all_goals exact absurd leaves Bool.false_ne_true
      case ei =>
        split
        case h_4 => exact ei'.trans (by rw [ei]; exact Bool.and_not_self _)
        all_goals exact absurd leaves Bool.false_ne_true

end Sys2Proof.Machine

/-! ## The cycles of a step and of a budget (O57, O60) -/

namespace Sys2Proof.Machine

/-! ### What the instruction at PC bills -/

/-- A pair of counts of R470 for a legal opcode: multiples of 4 from 4 to 24. -/
def LegalCost (p : Nat × Nat) : Prop :=
  (4 ≤ p.1 ∧ p.1 ≤ 24 ∧ p.1 % 4 = 0) ∧ (4 ≤ p.2 ∧ p.2 ≤ 24 ∧ p.2 % 4 = 0)

theorem legalCost_primary : ∀ op : Byte, op ∉ illegalBytes → op ≠ 0xCB → LegalCost (primaryCost op) := by
  unfold LegalCost
  decide

theorem legalCost_cb (op : Byte) : LegalCost (cbCost op, cbCost op) := by
  unfold cbCost LegalCost
  split
  · split <;> decide
  · decide

/-- A legal instruction at PC bills the base or the taken count of an opcode with a legal default cost. -/
theorem instrCycles_cases (s : State) : (∃ b, fetchedInstr s = .illegal b) ∨
    ∃ page op, LegalCost (defaultCost page op) ∧
      (instrCycles s = (costOf s.cfg page op).1 ∨ instrCycles s = (costOf s.cfg page op).2) := by
  by_cases legal : ∃ b, fetchedInstr s = .illegal b
  · exact .inl legal
  · refine .inr ⟨(opcodeKey (fetchedInstr s)).1, (opcodeKey (fetchedInstr s)).2, ?cost, ?count⟩
    case count =>
      unfold instrCycles cycleCount
      split
      · next b h => exact absurd ⟨b, h⟩ legal
      · dsimp only
        split
        · exact .inr rfl
        · exact .inl rfl
    case cost =>
      have bytes := (spells_decode3 (opcodeByte s) (memRead .operand1 (operandAddr s) s)
        (memRead .operand2 (operandAddr s + 1) s)).encode
      change encode (fetchedInstr s) = _ at bytes
      by_cases page : opcodeByte s = 0xCB
      · rw [opcodeKey, bytes]
        simp only [page, if_true]
        exact legalCost_cb _
      · rw [opcodeKey_primary _ _ _ bytes page]
        refine legalCost_primary _ (fun illegal => legal ⟨opcodeByte s, ?_⟩) page
        exact congrArg Prod.fst (Except.ok.inj ((decode_three _ _ _ []).symm.trans (decode_illegal illegal _)))

theorem costOf_default {cfg : Config} (h : cfg.cycles = []) (page : Bool) (op : Byte) :
    costOf cfg page op = defaultCost page op := by
  rw [costOf, h]
  rfl

/-- Under positive parameters a legal opcode costs something (R471). -/
theorem costOf_pos {cfg : Config} (h : cfg.CyclesOk) {page : Bool} {op : Byte} (legal : LegalCost (defaultCost page op)) :
    0 < (costOf cfg page op).1 ∧ 0 < (costOf cfg page op).2 := by
  obtain ⟨-, entries⟩ := h
  unfold costOf
  split
  · next e found =>
    obtain ⟨pos, -, -, le⟩ := entries e (List.mem_of_find?_eq_some found)
    exact ⟨pos, pos.trans_le le⟩
  · obtain ⟨⟨base, -⟩, taken, -⟩ := legal
    exact ⟨Nat.zero_lt_of_lt base, Nat.zero_lt_of_lt taken⟩

/-- An illegal opcode at PC crashes the machine (R380). -/
theorem crashed_of_runInstr_illegal {s t : State} {b : Byte} (illegal : fetchedInstr s = .illegal b)
    (run : runInstr s = .next t) : t.cpu.crashed = true := by
  rw [runInstr, illegal] at run
  cases run
  rw [consumeEi_of_crashed _ rfl]
  rfl

/-! ### What a step bills -/

theorem serviceInterrupts_cfg (s : State) : (serviceInterrupts s).1.cfg = s.cfg :=
  keeps_serviceInterrupts (fun u => u.cfg = s.cfg) (fun _ _ _ h => h) (fun u a v h => (memWrite_cfg a v u).trans h)
    (fun _ _ h => h) (fun _ _ h => h) s rfl

theorem serviceInterrupts_billed (s : State) : (serviceInterrupts s).2 = 0 ∨ (serviceInterrupts s).2 = 20 := by
  unfold serviceInterrupts
  dsimp only
  split
  · split
    · exact .inr rfl
    · exact .inl rfl
  · exact .inl rfl

/-- What a step can bill: nothing, when the machine is crashed; else what the interrupt check bills and the idle cycles or
the count of the instruction at PC, and an illegal one crashes the machine (R400). -/
theorem coreStep_bill (s : State) : ∃ t n, coreStep s = .next (t, n) ∧
    ((t.cpu.crashed = true ∧ n = 0) ∨ ∃ billed u, (billed = 0 ∨ billed = 20) ∧ u.cfg = s.cfg ∧
      (n = billed + s.cfg.idleCycles ∨
        (n = billed + instrCycles u ∧ ((∃ b, fetchedInstr u = .illegal b) → t.cpu.crashed = true)))) := by
  cases hc : s.cpu.crashed
  case true => exact ⟨s, 0, coreStep_of_crashed hc, .inl ⟨hc, rfl⟩⟩
  case false =>
    cases hs : s.cpu.stopped
    case true =>
      exact ⟨_, _, by rw [coreStep, hc, hs]; rfl, .inr ⟨0, s, .inl rfl, rfl, .inl (Nat.zero_add _).symm⟩⟩
    case false =>
      obtain ⟨⟨u, billed⟩, check⟩ : ∃ r, serviceInterrupts s = r := ⟨_, rfl⟩
      have cfg : u.cfg = s.cfg := by
        have := serviceInterrupts_cfg s
        rwa [check] at this
      have amount : billed = 0 ∨ billed = 20 := by
        have := serviceInterrupts_billed s
        rwa [check] at this
      cases hh : u.cpu.halted
      case true => exact ⟨_, _, coreStep_of_halted hc hs check hh, .inr ⟨billed, u, amount, cfg, .inl (by rw [cfg])⟩⟩
      case false =>
        obtain ⟨v, run⟩ := runInstr_next u
        refine ⟨_, _, coreStep_of_awake hc hs check hh run, .inr ⟨billed, u, amount, cfg, .inr ⟨rfl, fun ⟨b, illegal⟩ => ?_⟩⟩⟩
        rw [endStep_cpu]
        exact crashed_of_runInstr_illegal illegal run

/-- With the default table a step bills at most 44 cycles, and at least 4 unless it leaves the machine crashed (R472). -/
theorem stepCycleBounds : Obligations.StepCycleBounds := by
  intro s table idle
  obtain ⟨t, n, core, ⟨crashed, rfl⟩ | ⟨billed, u, hb, cfg, rfl | ⟨rfl, crashes⟩⟩⟩ := coreStep_bill s
  · exact ⟨t, 0, core, rfl, Nat.zero_le _, .inr crashed⟩
  · exact ⟨t, _, core, by omega, by omega, .inl (by omega)⟩
  · rcases instrCycles_cases u with ⟨b, illegal⟩ | ⟨page, op, ⟨base, taken⟩, count⟩
    · have none : instrCycles u = 0 := by rw [instrCycles, illegal, cycleCount_illegal]
      exact ⟨t, _, core, by omega, by omega, .inr (crashes ⟨b, illegal⟩)⟩
    · rw [costOf_default (cfg ▸ table)] at count
      exact ⟨t, _, core, by omega, by omega, .inl (by omega)⟩

/-- With positive cycle parameters a step bills something or leaves the machine crashed (R471). -/
theorem coreStep_bill_pos {s t : State} {n : Nat} (h : s.cfg.CyclesOk) (core : coreStep s = .next (t, n)) :
    t.cpu.crashed = true ∨ 0 < n := by
  obtain ⟨t, n, core', bill⟩ := coreStep_bill s
  cases core.symm.trans core'
  rcases bill with ⟨crashed, -⟩ | ⟨billed, u, -, cfg, rfl | ⟨rfl, crashes⟩⟩
  · exact .inl crashed
  · exact .inr (Nat.add_pos_right _ h.1.1)
  · rcases instrCycles_cases u with illegal | ⟨page, op, legal, count⟩
    · exact .inl (crashes illegal)
    · have pos := costOf_pos (cfg ▸ h) legal
      exact .inr (by omega)

/-! ### The loop of a budget -/

/-- With passes enough the loop ends by a crash, a frame or the budget, and with the default table its last step overruns
the budget by at most 43 cycles. -/
theorem runBudget_ends (b fuel ran : Nat) (s : State) (h : s.cfg.CyclesOk) (enough : b ≤ ran + fuel) :
    ∃ t ran', runBudget b fuel ran s = .next (t, ran') ∧
      (t.cpu.crashed = true ∨ t.ppu.frameReady = true ∨ b ≤ ran') ∧
      (s.cfg.cycles = [] → s.cfg.idleCycles = 4 → ran ≤ b + 43 → ran' ≤ b + 43) := by
  induction fuel generalizing ran s with
  | zero => exact ⟨s, ran, rfl, .inr (.inr enough), fun _ _ le => le⟩
  | succ fuel ih =>
    by_cases goesOn : (!s.cpu.crashed && decide (ran < b)) = true
    · obtain ⟨t, n, core⟩ := coreStep_next s
      have unspent : ran < b := by simp at goesOn; exact goesOn.2
      have within : s.cfg.cycles = [] → s.cfg.idleCycles = 4 → ran + n ≤ b + 43 := by
        intro table idle
        obtain ⟨t', n', core', -, le, -⟩ := stepCycleBounds s table idle
        cases core.symm.trans core'
        omega
      have pass : runBudget b (fuel + 1) ran s =
          if t.ppu.frameReady then .next (t, ran + n) else runBudget b fuel (ran + n) t := by
        rw [runBudget, if_pos goesOn, core]
      have cfg : t.cfg = s.cfg := (fixedPartsKept_step s t (step_of_coreStep core)).cfg
      rw [pass]
      cases frame : t.ppu.frameReady
      case true => exact ⟨t, ran + n, rfl, .inr (.inl frame), fun table idle _ => within table idle⟩
      case false =>
        rw [if_neg Bool.false_ne_true]
        rcases coreStep_bill_pos h core with crashed | pos
        · exact ⟨t, ran + n, runBudget_of_crashed crashed _ _ _, .inl crashed, fun table idle _ => within table idle⟩
        · obtain ⟨t', ran', ends, how, overrun⟩ := ih (ran + n) t (cfg ▸ h) (by omega)
          rw [cfg] at overrun
          exact ⟨t', ran', ends, how, fun table idle _ => overrun table idle (within table idle)⟩
    · refine ⟨s, ran, by rw [runBudget, if_neg goesOn], ?_, fun _ _ le => le⟩
      cases crashed : s.cpu.crashed
      · simp [crashed] at goesOn
        exact .inr (.inr goesOn)
      · exact .inl rfl

/-- Settles O60: no pass for budget 0, one for budget 1, and `runBudget_ends` for any. -/
theorem hostStepBudget : Obligations.HostStepBudget := by
  refine ⟨fun s => rfl, fun s t n hc core => ?one, fun b s h => ?any, fun s => rfl⟩
  case one =>
    refine hostStep_of_runBudget ?_
    rw [runBudget, if_pos (by simp [hc]), core]
    dsimp only
    rw [Nat.zero_add]
    split <;> rfl
  case any =>
    obtain ⟨t, ran, ends, how, overrun⟩ := runBudget_ends b b 0 s h (Nat.le_add_left _ _)
    exact ⟨_, _, hostStep_of_runBudget ends, rfl, rfl, how, fun table idle => overrun table idle (Nat.zero_le _)⟩

end Sys2Proof.Machine

/-! ## The cycle parameters (O58): no read, no write and so no instruction looks at them -/

namespace Sys2Proof.Machine

/-- The machine with other cycle parameters. -/
def State.retimed (table : List CycleEntry) (idle : Nat) (s : State) : State :=
  { s with cfg := { s.cfg with cycles := table, idleCycles := idle } }

section
variable (table : List CycleEntry) (idle : Nat)

theorem dmaCopy_retimed (src : Word) (n i : Nat) (s : State) :
    dmaCopy src n i (s.retimed table idle) = (dmaCopy src n i s).retimed table idle := by
  induction n generalizing i s with
  | zero => rfl
  | succ n ih => rw [dmaCopy, dmaCopy, ← ih]; rfl

theorem startDma_retimed (v : Byte) (s : State) :
    startDma v (s.retimed table idle) = (startDma v s).retimed table idle := by
  obtain ⟨n, -, start⟩ := startDma_eq
  have copy := dmaCopy_retimed table idle (wordOf v 0) n 0 { s with dma := { s.dma with reg := v } }
  rw [start, start]
  unfold State.retimed at copy ⊢
  dsimp only at copy ⊢
  rw [copy]

theorem writeLcdc_retimed (v : Byte) (s : State) :
    writeLcdc v (s.retimed table idle) = (writeLcdc v s).retimed table idle := by
  unfold writeLcdc State.retimed
  dsimp only
  split
  · rfl
  · split <;> rfl

theorem cartStore_retimed (a : Nat) (v : Byte) (s : State) :
    cartStore a v (s.retimed table idle) = (cartStore a v s).retimed table idle := by
  unfold cartStore State.retimed
  dsimp only
  split <;> rfl

theorem ioWrite_retimed (r : IoReg) (v : Byte) (s : State) :
    ioWrite r v (s.retimed table idle) = (ioWrite r v s).retimed table idle := by
  by_cases absent : (r.cgbOnly && !s.cfg.cgb) = true
  · exact (if_pos absent).trans (congrArg (State.retimed table idle) (if_pos absent).symm)
  · refine (if_neg absent).trans ((congrArg (State.retimed table idle) (if_neg absent)).trans ?_).symm
    cases r with
    | lcdc => exact (writeLcdc_retimed table idle v s).symm
    | dma => exact (startDma_retimed table idle v s).symm
    | bootOff => exact apply_ite (State.retimed table idle) (v = 0) _ _
    | _ => rfl

/-- The address map and the write traps look at no cycle parameter. -/
theorem memWrite_retimed (a : Word) (v : Byte) (s : State) :
    memWrite a v (s.retimed table idle) = (memWrite a v s).retimed table idle := by
  unfold memWrite
  cases Region.of a with
  | vram => exact (apply_ite (State.retimed table idle) (locked s) s (s.poke .vram (vramOffset a.toNat s) v)).symm
  | oam => exact (apply_ite (State.retimed table idle) (locked s) s (s.poke .oam (a.toNat - 0xFE00) v)).symm
  | cartRam =>
    dsimp only
    rw [cartStore_retimed]
    exact (apply_ite (State.retimed table idle) (s.mapper.ramEnabled s.cfg.ramSize) _ _).symm
  | io =>
    cases IoReg.ofAddr a with
    | none => rfl
    | some r => exact ioWrite_retimed table idle r v s
  | _ => rfl

theorem push16_retimed (w : Word) (s : State) :
    push16 w (s.retimed table idle) = (push16 w s).retimed table idle := by
  rw [push16_eq, push16_eq]
  have writes := memWrite_retimed table idle (s.cpu.sp - 2) (loByte w) (memWrite (s.cpu.sp - 1) (hiByte w) s)
  rw [← memWrite_retimed] at writes
  exact congrArg (fun q : State => { q with cpu := { s.cpu with sp := s.cpu.sp - 2 } }) writes

/-! ### Operations on the registers -/

theorem setPair_retimed (p : R16) (v : Word) (s : State) :
    (s.retimed table idle).setPair p v = (s.setPair p v).retimed table idle := by
  cases p <;> rfl

theorem incPair_retimed (p : R16) (s : State) :
    incPair p (s.retimed table idle) = (incPair p s).retimed table idle := by
  cases p <;> rfl

theorem decPair_retimed (p : R16) (s : State) :
    decPair p (s.retimed table idle) = (decPair p s).retimed table idle := by
  cases p <;> rfl

theorem addHLPair_retimed (p : R16) (s : State) :
    addHLPair p (s.retimed table idle) = (addHLPair p s).retimed table idle := by
  cases p <;> rfl

theorem setStkPair_retimed (p : R16Stk) (v : Word) (s : State) :
    (s.retimed table idle).setStkPair p v = (s.setStkPair p v).retimed table idle := by
  cases p <;> rfl

theorem pushPair_retimed (p : R16Stk) (s : State) :
    pushPair p (s.retimed table idle) = (pushPair p s).retimed table idle := by
  cases p <;> exact push16_retimed table idle _ s

theorem condHolds_retimed (cc : Cond) (s : State) : condHolds cc (s.retimed table idle) = condHolds cc s := by
  cases cc <;> rfl

theorem aluApply_retimed (op : AluOp) (v : Byte) (s : State) :
    aluApply op v (s.retimed table idle) = (aluApply op v s).retimed table idle := by
  cases op <;> rfl

/-- A choice between two operations, made by a condition on F. -/
theorem ite_condHolds_retimed (cc : Cond) (taken : State → State) (s : State)
    (h : taken (s.retimed table idle) = (taken s).retimed table idle) :
    (if condHolds cc (s.retimed table idle) then taken (s.retimed table idle) else s.retimed table idle) =
      (if condHolds cc s then taken s else s).retimed table idle := by
  rw [condHolds_retimed, h]
  exact (apply_ite (State.retimed table idle) (condHolds cc s) _ _).symm

theorem doCall_retimed (nn : Word) (s : State) :
    doCall nn (s.retimed table idle) = (doCall nn s).retimed table idle :=
  congrArg (State.setPc nn) (push16_retimed table idle s.cpu.pc s)

theorem doHalt_retimed (s : State) : doHalt (s.retimed table idle) = (doHalt s).retimed table idle :=
  (apply_ite (State.retimed table idle) ((!s.cpu.ime && pendingBits s != 0) = true)
    (s.setHaltBug true) (s.setHalted true)).symm

/-- An operation that stores a byte, then sets a pair. -/
theorem setPair_memWrite_retimed (a : Word) (v : Byte) (p : R16) (w : Word) (s : State) :
    (memWrite a v (s.retimed table idle)).setPair p w = ((memWrite a v s).setPair p w).retimed table idle := by
  rw [memWrite_retimed, setPair_retimed]

/-- An operation that stores a byte, then sets the flags. -/
theorem setFlags_memWrite_retimed (a : Word) (v : Byte) (z n h c : Bool) (s : State) :
    (memWrite a v (s.retimed table idle)).setFlags z n h c = ((memWrite a v s).setFlags z n h c).retimed table idle := by
  rw [memWrite_retimed]
  rfl

/-- No instruction looks at the cycle parameters, and none changes them. -/
theorem exec_retimed (i : Instr) (s t : State) (h : exec i s = .next t) :
    exec i (s.retimed table idle) = .next (t.retimed table idle) := by
  have write := memWrite_retimed table idle
  have ret : ∀ s : State, doReturn (s.retimed table idle) = (doReturn s).retimed table idle := fun _ => rfl
  have next {a b : State} (h : a = b) : (Host.Outcome.next a : Host.Outcome State Fault Refusal) = .next b := congrArg _ h
  revert h
  induction i using Instr.by_family
  case h_ldPairNn p nn => rw [exec_ldPairNn, exec_ldPairNn]; rintro ⟨⟩; exact next (setPair_retimed table idle p nn s)
  case h_incPair p => rw [exec_incPair, exec_incPair]; rintro ⟨⟩; exact next (incPair_retimed table idle p s)
  case h_decPair p => rw [exec_decPair, exec_decPair]; rintro ⟨⟩; exact next (decPair_retimed table idle p s)
  case h_addHLPair p => rw [exec_addHLPair, exec_addHLPair]; rintro ⟨⟩; exact next (addHLPair_retimed table idle p s)
  case h_ldIndBCA | h_ldIndDEA | h_ldIndHLn | h_ldhIndNA | h_ldhIndCA | h_ldIndNnA =>
    rintro ⟨⟩; exact next (write _ _ s)
  case h_ldIndReg r => rw [exec_ldIndReg, exec_ldIndReg]; rintro ⟨⟩; exact next (write _ _ s)
  case h_resInd b => rw [exec_resInd, exec_resInd]; rintro ⟨⟩; exact next (write _ _ s)
  case h_setInd b => rw [exec_setInd, exec_setInd]; rintro ⟨⟩; exact next (write _ _ s)
  case h_ldIndNnSP nn =>
    rintro ⟨⟩
    exact next ((congrArg (memWrite (nn + 1) (hiByte s.cpu.sp)) (write nn (loByte s.cpu.sp) s)).trans (write _ _ _))
  case h_ldIndHLIncA | h_ldIndHLDecA => rintro ⟨⟩; exact next (setPair_memWrite_retimed table idle _ _ _ _ s)
  case h_incIndHL | h_decIndHL => rintro ⟨⟩; exact next (setFlags_memWrite_retimed table idle _ _ _ _ _ _ s)
  case h_rotInd op =>
    rw [exec_rotInd, exec_rotInd]; rintro ⟨⟩; exact next (setFlags_memWrite_retimed table idle _ _ _ _ _ _ s)
  case h_incReg r => rw [exec_incReg, exec_incReg]; rintro ⟨⟩; rfl
  case h_decReg r => rw [exec_decReg, exec_decReg]; rintro ⟨⟩; rfl
  case h_ldRegN r n => rw [exec_ldRegN, exec_ldRegN]; rintro ⟨⟩; rfl
  case h_ldRegReg dst src => rw [exec_ldRegReg, exec_ldRegReg]; rintro ⟨⟩; rfl
  case h_ldRegInd r => rw [exec_ldRegInd, exec_ldRegInd]; rintro ⟨⟩; rfl
  case h_rotReg op r => rw [exec_rotReg, exec_rotReg]; rintro ⟨⟩; rfl
  case h_bitReg b r => rw [exec_bitReg, exec_bitReg]; rintro ⟨⟩; rfl
  case h_bitInd b => rw [exec_bitInd, exec_bitInd]; rintro ⟨⟩; rfl
  case h_resReg b r => rw [exec_resReg, exec_resReg]; rintro ⟨⟩; rfl
  case h_setReg b r => rw [exec_setReg, exec_setReg]; rintro ⟨⟩; rfl
  case h_aluReg op r => rw [exec_aluReg, exec_aluReg]; rintro ⟨⟩; exact next (aluApply_retimed table idle op _ s)
  case h_aluInd op => rw [exec_aluInd, exec_aluInd]; rintro ⟨⟩; exact next (aluApply_retimed table idle op _ s)
  case h_aluN op n => rw [exec_aluN, exec_aluN]; rintro ⟨⟩; exact next (aluApply_retimed table idle op n s)
  case h_popStk p =>
    rw [exec_popStk, exec_popStk]; rintro ⟨⟩; exact next (setStkPair_retimed table idle p (popValue s) (afterPop s))
  case h_pushStk p => rw [exec_pushStk, exec_pushStk]; rintro ⟨⟩; exact next (pushPair_retimed table idle p s)
  case h_jrCond cc e =>
    rw [exec_jrCond, exec_jrCond]; rintro ⟨⟩; exact next (ite_condHolds_retimed table idle cc (jumpRel e) s rfl)
  case h_jpCond cc nn =>
    rw [exec_jpCond, exec_jpCond]; rintro ⟨⟩; exact next (ite_condHolds_retimed table idle cc (jumpAbs nn) s rfl)
  case h_callCond cc nn =>
    rw [exec_callCond, exec_callCond]; rintro ⟨⟩
    exact next (ite_condHolds_retimed table idle cc (doCall nn) s (doCall_retimed table idle nn s))
  case h_retCond cc =>
    rw [exec_retCond, exec_retCond]; rintro ⟨⟩; exact next (ite_condHolds_retimed table idle cc doReturn s (ret s))
  case h_rst v => rw [exec_rst, exec_rst]; rintro ⟨⟩; exact next (doCall_retimed table idle v.target s)
  case h_call nn => rintro ⟨⟩; exact next (doCall_retimed table idle nn s)
  case h_halt => rintro ⟨⟩; exact next (doHalt_retimed table idle s)
  all_goals rintro ⟨⟩; rfl

end

/-- Settles O58, by family of instructions: bus writes and register operations commute with replacing the cycle parameters. -/
theorem cycleTableIsInvisibleToInstructions : Obligations.CycleTableIsInvisibleToInstructions :=
  fun i s t table idle h => exec_retimed table idle i s t h

end Sys2Proof.Machine
